-- ==== Sys2Proof/Word.lean ====
section
/-! DEFINITION. The word of the register bank (R8: `REG_WIDTH = 32`) and the byte of its bus lanes (R52). -/

namespace Sys2Proof

/-- A register or bus word: 32 bits, unsigned, bit 0 least significant (R8, R17). -/
abbrev Word := BitVec 32

/-- One byte lane of a word (R52). -/
abbrev Byte := BitVec 8

end Sys2Proof
end

