-- ==== Sys2Proof/Config.lean ====
section
/-! DEFINITION. The implementation parameters of 00_scope.md section 4, the realize outcomes of 42_board_composer.md,
and the values the spec leaves open. An OPEN parameter is a constant without a body: no proof can see its value. -/

namespace Sys2Proof

/-- One of the `PIN_COUNT = 13` splitters, pin-map entries and peripheral inputs (R12). -/
abbrev Line := Fin 13

/-- One of the `SPLIT_LINES = 2` outputs of a splitter (R13). -/
abbrev Output := Fin 2

/-- The name of a GPIO block. `BlockId` is an OPEN parameter type (R14); rules only compare names. DESIGN CHOICE, log 13. -/
structure BlockId where
  id : Nat
  deriving DecidableEq, Repr, Inhabited

/-- The name of a pin within a block. `PinIndex` is an OPEN parameter type (R14). DESIGN CHOICE, log 13. -/
structure PinIndex where
  id : Nat
  deriving DecidableEq, Repr, Inhabited

/-- A GPIO line of the SoC, named by its typed pair and never by one flattened number (R171). -/
structure Pin where
  block : BlockId
  index : PinIndex
  deriving DecidableEq, Repr, Inhabited

/-- The parameters a build fixes before `COMPOSE` (R10, R11, R14, R15, R16, R197). Whether they are legal is
`Params.legal`, which `COMPOSE` checks (R166). -/
structure Params where
  /-- `REGION_SIZE` (R10). -/
  regionSize : Nat
  /-- `RNG_BASE` (R11). -/
  rngBase : Nat
  /-- `PIN_MAP`, entry `i` at place `i` (R14, R31). -/
  pinMap : Vector Pin 13
  /-- `PERIPHERAL_PRESENT` (R15, R162). -/
  peripheralPresent : Bool
  /-- `SYSTEM_RESET_CLEARS_BANK` (R16, R201). -/
  systemResetClearsBank : Bool
  deriving DecidableEq, Repr, Inhabited

/-- The realize outcomes, free Boolean inputs of `COMPOSE` (R160, D17). -/
structure Realize where
  socOk : Bool
  periphOk : Bool
  splitOk : Vector Bool 13
  deriving DecidableEq, Repr, Inhabited

/-- How many words the region holds beyond its three registers: OPEN, so that `REGION_SIZE` is any legal size. Log 14. -/
opaque Config.extraWords : Nat

/-- `REGION_SIZE` of the build: at least 0xC and a multiple of 4, otherwise OPEN (R10). Log 14. -/
def Config.regionSize : Nat := 4 * Config.extraWords + 0xC

/-- `RNG_BASE` of the build, OPEN (R11). -/
opaque Config.rngBase : Nat

/-- `PIN_MAP` of the build, OPEN (R14, N1). -/
opaque Config.pinMap : Vector Pin 13

/-- `PERIPHERAL_PRESENT` of the build, OPEN (R15). -/
opaque Config.peripheralPresent : Bool

/-- `SYSTEM_RESET_CLEARS_BANK` of the build, OPEN (R16). -/
opaque Config.systemResetClearsBank : Bool

/-- The parameters of the build (log 1). -/
def Config.params : Params where
  regionSize := Config.regionSize
  rngBase := Config.rngBase
  pinMap := Config.pinMap
  peripheralPresent := Config.peripheralPresent
  systemResetClearsBank := Config.systemResetClearsBank

/-- The realize outcomes the collaborators will give: free (R160, D17). Log 2. -/
opaque Config.realize : Realize

/-- The 64-bit value the entropy source gives at its `n`-th draw: free, no law (R6, R27, D9). Log 3. -/
opaque Config.entropy : Nat → BitVec 64

end Sys2Proof
end

