-- ==== Sys2Proof/Syntax.lean ====
section
/-! DEFINITION. The 15 kinds of transaction, one constructor per row of opcode_table.json (R79). -/

namespace Sys2Proof

/-- A decoded transaction (R79). Offsets and sizes are unbounded naturals (D23); a line is one of the 13 (R73). -/
inductive Instr where
  | rdBadSize (off size : Nat)
  | rdOob (off : Nat)
  | rdCr
  | rdSr
  | rdDr
  | rdInvalid (off : Nat)
  | wrBadSize (off size : Nat) (value : Word)
  | wrOob (off : Nat) (value : Word)
  | wrCr (value : Word)
  | wrSr (value : Word)
  | wrDr (value : Word)
  | wrInvalid (off : Nat) (value : Word)
  | gpioSet (line : Line) (b : Bool)
  | compose
  | reset
  deriving DecidableEq, Repr

end Sys2Proof
end

