-- ==== Sys2Proof/WellFormed.lean ====
section
/-! DEFINITION. Which operands each kind of transaction may carry: the "selected by" column of rule R79. -/

namespace Sys2Proof

/-- An offset inside a region of `regionSize` bytes that selects no register (R51). -/
def invalidOffset (regionSize off : Nat) : Bool :=
  off < regionSize && off != 0x0 && off != 0x4 && off != 0x8

/-- The operands are ones for which R79 selects this kind, in a region of `regionSize` bytes. -/
def Instr.wellFormed (regionSize : Nat) : Instr → Bool
  | .rdBadSize _ size => size != 4
  | .rdOob off => regionSize ≤ off
  | .rdCr => 0x0 < regionSize
  | .rdSr => 0x4 < regionSize
  | .rdDr => 0x8 < regionSize
  | .rdInvalid off => invalidOffset regionSize off
  | .wrBadSize _ size _ => size != 4
  | .wrOob off _ => regionSize ≤ off
  | .wrCr _ => 0x0 < regionSize
  | .wrSr _ => 0x4 < regionSize
  | .wrDr _ => 0x8 < regionSize
  | .wrInvalid off _ => invalidOffset regionSize off
  | .gpioSet _ _ => true
  | .compose => true
  | .reset => true

end Sys2Proof
end

