-- ==== Sys2Proof/Decode.lean ====
section
/-! DEFINITION. The transactions agents deliver (30_encoding.md section 1), their decode into the 15 kinds (R76 to R78),
the encoder, the offset a bus address stands for (R51), and the packed word in which the HOST hands a transaction over.
The spec gives a transaction no bits (R70); the packed word is the model's own and no rule reads it (DESIGN CHOICE, log 6). -/

namespace Sys2Proof

/-- The two host events (R74). -/
inductive HostOp where
  | compose
  | reset
  deriving DecidableEq, Repr

/-- A transaction as its agent delivers it: the four formats of R70, and the instruction fetch that R65 names only to refuse
it (log 17). The bus value and the line are as delivered, before the decoder takes bits 31:0 (R75) or refuses (R78). -/
inductive Transaction where
  /-- `BUS_R` (R71). -/
  | busR (off size : Nat)
  /-- `BUS_W` (R72). -/
  | busW (off size value : Nat)
  /-- `GPIO` (R73). -/
  | gpio (line : Nat) (b : Bool)
  /-- `HOST` (R74). -/
  | host (op : HostOp)
  /-- An instruction fetch from the register bank region: no format of R70, refused (R65). -/
  | fetch (off : Nat)
  deriving DecidableEq, Repr

/-- Why a transaction decodes to no kind. -/
inductive DecodeError where
  /-- A line outside 0..12 (R78, R166). -/
  | badLine (line : Nat)
  /-- An instruction fetch from the region (R65). -/
  | instrFetch (off : Nat)
  deriving DecidableEq, Repr

/-- What the decoder answers, for every transaction: a kind with its operands, or a refusal by name. -/
inductive Decoded where
  | instr (i : Instr)
  | refused (e : DecodeError)
  deriving DecidableEq, Repr

/-- The three agents (R192). -/
inductive Agent where
  | busMaster
  | gpioDriver
  | host
  deriving DecidableEq, Repr

/-- The kind of a bus read: the first test that holds wins (R76). -/
def decodeRead (regionSize off size : Nat) : Instr :=
  if size ≠ 4 then .rdBadSize off size
  else if regionSize ≤ off then .rdOob off
  else if off = 0x0 then .rdCr
  else if off = 0x4 then .rdSr
  else if off = 0x8 then .rdDr
  else .rdInvalid off

/-- The kind of a bus write, in the order of reads; the value takes no part (R77). -/
def decodeWrite (regionSize off size : Nat) (value : Word) : Instr :=
  if size ≠ 4 then .wrBadSize off size value
  else if regionSize ≤ off then .wrOob off value
  else if off = 0x0 then .wrCr value
  else if off = 0x4 then .wrSr value
  else if off = 0x8 then .wrDr value
  else .wrInvalid off value

/-- The word a bus value of any width stands for: its bits 31:0 (R75, D23; log 18). -/
def busWord (value : Nat) : Word := BitVec.ofNat 32 value

/-- The decoder of R76, R77 and R78. It reads nothing of the state but `REGION_SIZE` (R82). -/
def decode (regionSize : Nat) : Transaction → Decoded
  | .busR off size => .instr (decodeRead regionSize off size)
  | .busW off size value => .instr (decodeWrite regionSize off size (busWord value))
  | .gpio line b => if h : line < 13 then .instr (.gpioSet ⟨line, h⟩ b) else .refused (.badLine line)
  | .host .compose => .instr .compose
  | .host .reset => .instr .reset
  | .fetch off => .refused (.instrFetch off)

/-- The field tuple of a kind (R70, R79): the transaction that its agent delivers. -/
def encode : Instr → Transaction
  | .rdBadSize off size => .busR off size
  | .rdOob off => .busR off 4
  | .rdCr => .busR 0x0 4
  | .rdSr => .busR 0x4 4
  | .rdDr => .busR 0x8 4
  | .rdInvalid off => .busR off 4
  | .wrBadSize off size value => .busW off size value.toNat
  | .wrOob off value => .busW off 4 value.toNat
  | .wrCr value => .busW 0x0 4 value.toNat
  | .wrSr value => .busW 0x4 4 value.toNat
  | .wrDr value => .busW 0x8 4 value.toNat
  | .wrInvalid off value => .busW off 4 value.toNat
  | .gpioSet line b => .gpio line.val b
  | .compose => .host .compose
  | .reset => .host .reset

/-- The same transaction with its bus value cut to bits 31:0 (R75): what the decoder keeps of it. -/
def Transaction.narrow : Transaction → Transaction
  | .busR off size => .busR off size
  | .busW off size value => .busW off size (busWord value).toNat
  | .gpio line b => .gpio line b
  | .host op => .host op
  | .fetch off => .fetch off

/-- Who issues a transaction of this format (R70, R192). -/
def Transaction.agent : Transaction → Agent
  | .busR _ _ => .busMaster
  | .busW _ _ _ => .busMaster
  | .gpio _ _ => .gpioDriver
  | .host _ => .host
  | .fetch _ => .busMaster

/-- Who issues this kind (R192). -/
def Instr.agent : Instr → Agent
  | .rdBadSize _ _ => .busMaster
  | .rdOob _ => .busMaster
  | .rdCr => .busMaster
  | .rdSr => .busMaster
  | .rdDr => .busMaster
  | .rdInvalid _ => .busMaster
  | .wrBadSize _ _ _ => .busMaster
  | .wrOob _ _ => .busMaster
  | .wrCr _ => .busMaster
  | .wrSr _ => .busMaster
  | .wrDr _ => .busMaster
  | .wrInvalid _ _ => .busMaster
  | .gpioSet _ _ => .gpioDriver
  | .compose => .host
  | .reset => .host

/-- A bus read, which hands a word back to the bus master (R71). -/
def Instr.isRead : Instr → Bool
  | .rdBadSize _ _ => true
  | .rdOob _ => true
  | .rdCr => true
  | .rdSr => true
  | .rdDr => true
  | .rdInvalid _ => true
  | .wrBadSize _ _ _ => false
  | .wrOob _ _ => false
  | .wrCr _ => false
  | .wrSr _ => false
  | .wrDr _ => false
  | .wrInvalid _ _ => false
  | .gpioSet _ _ => false
  | .compose => false
  | .reset => false

/-- The offset a bus address stands for: the address minus `RNG_BASE` (R51); none below the base (log 32). -/
def Params.offsetOf (p : Params) (addr : Nat) : Option Nat :=
  if p.rngBase ≤ addr then some (addr - p.rngBase) else none

/-- The transaction of a bus read of `size` bytes at a bus address (R18, R51). -/
def Params.readAt (p : Params) (addr size : Nat) : Option Transaction :=
  (p.offsetOf addr).map fun off => .busR off size

/-- The transaction of a bus write at a bus address (R18, R51). -/
def Params.writeAt (p : Params) (addr size value : Nat) : Option Transaction :=
  (p.offsetOf addr).map fun off => .busW off size value

/-- The line whose pin-map entry is this pin: the lookup of R171. -/
def Params.lineOf (p : Params) (pin : Pin) : Option Line :=
  (List.finRange 13).find? fun i => p.pinMap[i] = pin

/-- The transaction of the SoC driving an output pin: the splitter that pin feeds, if any (R147, R164). -/
def Params.driveAt (p : Params) (pin : Pin) (b : Bool) : Option Transaction :=
  (p.lineOf pin).map fun i => .gpio i.val b

/-- Bits `lo + len - 1` down to `lo` of a packed word. -/
def packedField (w lo len : Nat) : Nat := w / 2 ^ lo % 2 ^ len

/-- The transaction a packed word stands for (DESIGN CHOICE, log 6). Bits 7:0 name the format (1 `BUS_R`, 2 `BUS_W`, 3 `GPIO`,
4 `HOST`, 5 fetch); bits 15:8 hold the size, the line, or the host event (0 `COMPOSE`, 1 `RESET`); bits 47:16 the offset, or the level in
bit 16; bits 79:48 the value. Any other format, as in an empty word, stands for no transaction. -/
def Transaction.ofPacked (w : Nat) : Option Transaction :=
  match packedField w 0 8 with
  | 1 => some (.busR (packedField w 16 32) (packedField w 8 8))
  | 2 => some (.busW (packedField w 16 32) (packedField w 8 8) (packedField w 48 32))
  | 3 => some (.gpio (packedField w 8 8) (packedField w 16 1 == 1))
  | 4 =>
    match packedField w 8 8 with
    | 0 => some (.host .compose)
    | 1 => some (.host .reset)
    | _ => none
  | 5 => some (.fetch (packedField w 16 32))
  | _ => none

/-- The transaction of the `nbits` low bits of a packed word, the bits above them being 0. -/
def Transaction.ofTableWord (nbits w : Nat) : Option Transaction :=
  Transaction.ofPacked (w % 2 ^ nbits)

/-- The kind the decoder reads from a packed word, in the region of the build (log 6). -/
def decodeTableWord (nbits w : Nat) : Option Instr :=
  match Transaction.ofTableWord nbits w with
  | some t =>
    match decode Config.regionSize t with
    | .instr i => some i
    | .refused _ => none
  | none => none

end Sys2Proof
end

