-- ==== Sys2Proof/Machine/State.lean ====
section
/-! DEFINITION. The state of the CORE: the record of rule R35, and beside it the model's own fields for what R35 makes
arguments of a step (parameters, draws, realize outcomes) and for the two sides of the bus (transactions to come, words read). -/

namespace Sys2Proof.Machine

/-- The board phase (R33). -/
inductive Phase where
  /-- Before `COMPOSE`. -/
  | uncomposed
  /-- Composed, with the peripheral present or absent. -/
  | running (present : Bool)
  /-- Composition failed: terminal. -/
  | aborted
  deriving DecidableEq, Repr

/-- The six diagnostic kinds (R181). -/
inductive DiagKind where
  | badSize
  | outOfBounds
  | badOffset
  | noData
  | writeReadOnly
  | statusReadOnlyBits
  deriving DecidableEq, Repr

/-- One diagnostic event (R28). There is one device instance, so its tag is left unsaid (log 19). -/
structure Diag where
  kind : DiagKind
  off : Nat
  size : Nat
  value : Word
  deriving DecidableEq, Repr

/-- A consumer input: the SoC's loopback input pin, or the peripheral's discrete input (R32, R35). -/
inductive Consumer where
  | socIn (pin : Pin)
  | periphIn (line : Line)
  deriving DecidableEq, Repr

/-- The state. The fields up to `refused` are R35's record; the others are the model's own. -/
structure State where
  /-- The board phase (R33). -/
  phase : Phase
  /-- CR, the Control register (R22). -/
  cr : Word
  /-- SR, the Status register (R23). -/
  sr : Word
  /-- `level_i`, the last level set on each splitter's input (R29). -/
  level : Vector (Option Bool) 13
  /-- `seen(SocIn(PIN_MAP(i)))` at place `i` (R32). Log 20. -/
  seenSoc : Vector (Option Bool) 13
  /-- `seen(PeriphIn(i))` at place `i` (R32). Log 20. -/
  seenPeriph : Vector (Option Bool) 13
  /-- The notification events, oldest first (R32). -/
  notes : List (Consumer × Bool)
  /-- The diagnostics log, oldest first (R28). -/
  diags : List Diag
  /-- The refusal mark (R34). -/
  refused : Bool
  /-- MODEL'S OWN: the parameters of the build. Log 1. -/
  params : Params
  /-- MODEL'S OWN: the realize outcomes `COMPOSE` will draw. Log 2. -/
  realize : Realize
  /-- MODEL'S OWN: how many entropy draws were taken; the next one is `Config.entropy draws`. Log 3. -/
  draws : Nat
  /-- MODEL'S OWN: the transactions still to come, in the one total order of R59 (R21, R192). Log 4. -/
  pending : List Transaction
  /-- MODEL'S OWN: the words reads handed back to the bus master, oldest first (R18, R212). Log 12. -/
  returned : List Word
  deriving DecidableEq, Repr

/-- Why the machine can take no step. -/
inductive Fault where
  /-- Raised by every transaction, and by a step with none pending, in phase `Aborted`: "no step of any agent is enabled from
  it" (R165, R196). Safe: the machine stops where the spec gives no step. Log 8. -/
  | aborted
  deriving DecidableEq, Repr

/-- The steps the spec gives no meaning (R196). Each but `notModelled` carries the state it was refused in with the mark
`refused` set (R34); that state is no successor. All are safe: the model stops. Log 7. -/
inductive Refusal where
  /-- Raised by an arm of `exec` without a meaning. Safe. No arm does. -/
  | notModelled (mnemonic : String)
  /-- Raised by every `BUS_R` and `BUS_W` kind in `Uncomposed` and `Running(false)` (R100, R196). Safe. -/
  | noRegisterBank (final : State)
  /-- Raised by `GPIO_SET` in `Uncomposed` and `Running(false)` (R140, R196). Safe. -/
  | noSplitter (final : State)
  /-- Raised by the decoder for a line outside 0..12 (R166, R196). Safe. -/
  | badLine (line : Nat) (final : State)
  /-- Raised by `COMPOSE` in `Running` (R168, R196). Safe. -/
  | composeTwice (final : State)
  /-- Raised by `COMPOSE` under parameters that violate R10 or R14 (R166, R196). Safe. -/
  | misconfigured (final : State)
  /-- Raised by the decoder for an instruction fetch from the region (R65, R196). Safe. -/
  | instrFetch (off : Nat) (final : State)
  /-- Raised by `RESET` in `Uncomposed` (R201, R196). Safe. -/
  | noBoard (final : State)
  deriving DecidableEq, Repr

/-- The initial state of a run (R203). CR, SR and the levels have no value there; the values below are never read, because
every read is refused before `COMPOSE` sets them (DESIGN CHOICE, log 9). -/
def State.reset : State where
  phase := .uncomposed
  cr := 0x00000000#32
  sr := 0x00000000#32
  level := Vector.replicate 13 none
  seenSoc := Vector.replicate 13 none
  seenPeriph := Vector.replicate 13 none
  notes := []
  diags := []
  refused := false
  params := Config.params
  realize := Config.realize
  draws := 0
  pending := []
  returned := []

end Sys2Proof.Machine
end

