-- ==== Sys2Proof/Machine/Flags.lean ====
section
/-! DEFINITION. The bits of CR and SR, and the three bitwise computations of the register bank (R132). -/

namespace Sys2Proof.Machine

/-- The enable bit of a Control value: bit 2 (R22). -/
def enableBit (v : Word) : Bool := v.getLsbD 2

/-- The data-ready bit of a Status value: bit 0 (R23). -/
def dataReady (sr : Word) : Bool := sr.getLsbD 0

/-- SR after a write of `v` to CR: bit 0 becomes `v[2]`, every other bit stays (R112, R113, R114). -/
def mergeReady (sr v : Word) : Word :=
  (sr &&& 0xFFFFFFFE#32) ||| (v.extractLsb' 2 1).setWidth 32

/-- SR after a write of `v` to SR: bits 5 and 6 are cleared where `v` holds 0, every other bit stays (R118). -/
def clearSticky (sr v : Word) : Word := sr &&& (v ||| 0xFFFFFF9F#32)

/-- The warning test of an SR write: `v[2:0] ≠ 0` (R118, R119, C6). -/
def setsReadOnlyBits (v : Word) : Bool := v.extractLsb' 0 3 != 0#3

/-- The numeric code of a diagnostic kind (R181, D10). -/
def DiagKind.code : DiagKind → Nat
  | .badSize => 1
  | .outOfBounds => 2
  | .badOffset => 3
  | .noData => 4
  | .writeReadOnly => 5
  | .statusReadOnlyBits => 6

end Sys2Proof.Machine
end

