-- ==== Sys2Proof/Machine/Operands.lean ====
section
/-! DEFINITION. The operand forms that need more than their field (R75 says most need nothing): the registers an offset
selects (R51), the byte lanes of a word (R52), and the consumers a splitter's outputs feed (R164). -/

namespace Sys2Proof

/-- The parameters are legal: `REGION_SIZE` at least 0xC and a multiple of 4 (R10), `PIN_MAP` injective (R14, R166). The other
misconfigurations of R166 cannot be written down: outputs are `Fin 2` and peripheral inputs `Fin 13`. -/
def Params.legal (p : Params) : Bool :=
  0xC ≤ p.regionSize && p.regionSize % 4 == 0 && decide p.pinMap.toList.Nodup

end Sys2Proof

namespace Sys2Proof.Machine

/-- The byte of `v` at bus offset `+k`: little-endian lanes, `+0` is `v[7:0]` (R52, D2; log 26). -/
def byteLane (v : Word) (k : Fin 4) : Byte := v.extractLsb' (8 * k.val) 8

/-- The word whose byte at `+k` is `bk` (R52). -/
def ofByteLanes (b0 b1 b2 b3 : Byte) : Word := b3 ++ b2 ++ b1 ++ b0

/-- The consumer that output `k` of splitter `i` feeds: output 0 the SoC's own input pin `PIN_MAP(i)`, output 1 the peripheral's
input `i` (R164). -/
def consumerOf (p : Params) (i : Line) (k : Output) : Consumer :=
  if k = 0 then .socIn p.pinMap[i] else .periphIn i

/-- A connection point of the wiring graph (R164, R169, R170). -/
inductive Endpoint where
  /-- `SoC.getGpioOutputPin(blk, pin)`. -/
  | socOut (pin : Pin)
  | splitterIn (i : Line)
  | splitterOut (i : Line) (k : Output)
  /-- The SoC's or the peripheral's input. -/
  | consumer (c : Consumer)
  deriving DecidableEq, Repr

/-- The connections of pin-map entry `i`: what the composer connects (R164). -/
def wire (p : Params) (i : Line) : List (Endpoint × Endpoint) :=
  [(.socOut p.pinMap[i], .splitterIn i),
   (.splitterOut i 0, .consumer (consumerOf p i 0)),
   (.splitterOut i 1, .consumer (consumerOf p i 1))]

/-- The arrows inside splitter `i`, from its input to each of its two outputs (R13, R144, R169). -/
def fanOut (i : Line) : List (Endpoint × Endpoint) :=
  (List.finRange 2).map fun k => (.splitterIn i, .splitterOut i k)

/-- The whole wiring graph that composition builds with the peripheral present: the connections of each entry and the arrows inside its
splitter. Not persisted, so not state (R163, R169). -/
def wiring (p : Params) : List (Endpoint × Endpoint) := (List.finRange 13).flatMap fun i => wire p i ++ fanOut i

/-- The place of a connection point in the graph of R169: SoC output pin, splitter input, splitter output, consumer input. -/
def Endpoint.layer : Endpoint → Nat
  | .socOut _ => 0
  | .splitterIn _ => 1
  | .splitterOut _ _ => 2
  | .consumer _ => 3

/-- The consumer inputs of the board, splitter by splitter (R32). -/
def consumers (p : Params) : List Consumer :=
  (List.finRange 13).flatMap fun i => (List.finRange 2).map (consumerOf p i)

end Sys2Proof.Machine
end

