-- ==== Sys2Proof/Machine/Ops.lean ====
section
/-! DEFINITION. The primitives of rule R18 (return, diag, draw32, notify, refuse) as operations on the state, the preconditions
of the rules (R100, R140), the board composer's loop (R160), and taking the next transaction (R21). There is no operation for
taking an exception or returning from one: the CORE raises none (R180, R190). -/

namespace Sys2Proof.Machine

/-- What a step answers. -/
abbrev Result := Host.Outcome State Fault Refusal

/-- `return v`: the word a read hands back to the bus master (R18). -/
def State.handBack (s : State) (v : Word) : State := { s with returned := s.returned ++ [v] }

/-- `diag(kind, off, n, v)`: appends one event to the diagnostics log and changes nothing else (R18, R28). -/
def State.log (s : State) (kind : DiagKind) (off size : Nat) (value : Word) : State :=
  { s with diags := s.diags ++ [⟨kind, off, size, value⟩] }

/-- The value of the next `draw32()`: bits 31:0 of the next 64-bit entropy value (R27, C2). A FREE VALUE, log 3. -/
def State.nextDraw (s : State) : Word := (Config.entropy s.draws).setWidth 32

/-- The state after one draw: the next one is fresh (R27). -/
def State.advanceDraw (s : State) : State := { s with draws := s.draws + 1 }

/-- `CR <- v` (R18). -/
def State.setCr (s : State) (v : Word) : State := { s with cr := v }

/-- `SR <- v` (R18). -/
def State.setSr (s : State) (v : Word) : State := { s with sr := v }

/-- `level_i <- l` (R140, R160). -/
def State.setLevel (s : State) (i : Line) (l : Option Bool) : State := { s with level := s.level.set i l }

/-- `phase <- p` (R160). -/
def State.setPhase (s : State) (p : Phase) : State := { s with phase := p }

/-- Both registers at their construction value 0x00000000 (R200, D5; log 10). -/
def State.clearBank (s : State) : State := (s.setCr 0x00000000#32).setSr 0x00000000#32

/-- `refused <- true` (R34). -/
def State.markRefused (s : State) : State := { s with refused := true }

/-- `refuse(reason)`: no step, and the mark is set for the run (R18, R34, R196). -/
def refuse (reason : State → Refusal) (s : State) : Result := .refused (reason s.markRefused)

/-- `seen(c)`, the last level delivered to a consumer; none for a pin no splitter feeds (R32, log 20). -/
def State.seen (s : State) : Consumer → Option Bool
  | .socIn pin =>
    match s.params.lineOf pin with
    | some i => s.seenSoc[i]
    | none => none
  | .periphIn i => s.seenPeriph[i]

/-- `seen(c) <- some b` (R141). -/
def State.setSeen (s : State) (c : Consumer) (b : Bool) : State :=
  match c with
  | .socIn pin =>
    match s.params.lineOf pin with
    | some i => { s with seenSoc := s.seenSoc.set i (some b) }
    | none => s
  | .periphIn i => { s with seenPeriph := s.seenPeriph.set i (some b) }

/-- Appends `(c, b)` to the notification history (R141). -/
def State.note (s : State) (c : Consumer) (b : Bool) : State := { s with notes := s.notes ++ [(c, b)] }

/-- `notify(c, b)` (R141). -/
def State.notify (s : State) (c : Consumer) (b : Bool) : State := (s.setSeen c b).note c b

/-- `setInput(b)` of splitter `i`: its level, then every output's consumer in index order, whether or not the level changed
(R140, R142, R143, R144; log 21). -/
def State.setInput (s : State) (i : Line) (b : Bool) : State :=
  (List.finRange 2).foldl (fun t k => t.notify (consumerOf s.params i k) b) (s.setLevel i (some b))

/-- Output `k` of splitter `i`: it mirrors the input (R29, R145). -/
def State.output (s : State) (i : Line) (_k : Output) : Option Bool := s.level[i]

/-- How many splitters the board has: 13 when composed with the peripheral, else none (R163, R167). -/
def State.splitterCount (s : State) : Nat := if s.phase = .running true then 13 else 0

/-- The connections that exist: those of the composed board with its peripheral, else none (R163, R167, R169). -/
def State.wiring (s : State) : List (Endpoint × Endpoint) :=
  if s.phase = .running true then Machine.wiring s.params else []

/-- The precondition of every register bank rule: `Running(true)`; elsewhere `refuse(NoRegisterBank)` (R100, R196), and no step
in `Aborted` (R165; log 8). -/
def withBank (s : State) (s' : State) : Result :=
  match s.phase with
  | .running true => .next s'
  | .running false => refuse .noRegisterBank s
  | .uncomposed => refuse .noRegisterBank s
  | .aborted => .fault .aborted

/-- The precondition of `GPIO_SET`: `Running(true)`; elsewhere `refuse(NoSplitter)` (R140, R196), and no step in `Aborted`. -/
def withSplitters (s : State) (s' : State) : Result :=
  match s.phase with
  | .running true => .next s'
  | .running false => refuse .noSplitter s
  | .uncomposed => refuse .noSplitter s
  | .aborted => .fault .aborted

/-- A read that violates the protocol: one diagnostic with value 0, and 0 handed back (R181, R182). -/
def State.badRead (s : State) (kind : DiagKind) (off size : Nat) : State :=
  (s.log kind off size 0x00000000#32).handBack 0x00000000#32

/-- The composer's loop over the splitters, then `Running(true)`; a splitter that fails to realize aborts the board at once
(R160, R165). `wire(i)` leaves no state (R169). -/
def buildSplitters : List Line → State → State
  | [], s => s.setPhase (.running true)
  | i :: rest, s =>
    if s.realize.splitOk[i] then buildSplitters rest (s.setLevel i none) else s.setPhase .aborted

/-- The body of `COMPOSE` (R160): the SoC is mandatory (R161), the peripheral optional (R162, R167), and fatal once present
(R165). -/
def composeBoard (s : State) : State :=
  if !s.realize.socOk then s.setPhase .aborted
  else if !s.params.peripheralPresent then s.setPhase (.running false)
  else if !s.realize.periphOk then s.setPhase .aborted
  else buildSplitters (List.finRange 13) s.clearBank

/-- The refusal of a transaction that decodes to no kind (R65, R166, R196). -/
def refuseDecode (e : DecodeError) (s : State) : Result :=
  match e with
  | .badLine line => refuse (.badLine line) s
  | .instrFetch off => refuse (.instrFetch off) s

/-- What the machine does next: nothing is enabled in `Aborted`; else the next pending transaction, decoded, with the state in
which it runs; else nothing (R21, R165, R212; log 4, log 8). -/
inductive Upcoming where
  | dead
  | idle
  | run (i : Instr) (s : State)
  | reject (e : DecodeError) (s : State)
  deriving DecidableEq, Repr

/-- Takes the next transaction off the sequence and decodes it (R21, R76 to R78). -/
def State.upcoming (s : State) : Upcoming :=
  if s.phase = .aborted then .dead
  else match s.pending with
    | [] => .idle
    | t :: rest =>
      match decode s.params.regionSize t with
      | .instr i => .run i { s with pending := rest }
      | .refused e => .reject e { s with pending := rest }

/-- Delivers a transaction ahead of those pending (log 5). -/
def State.deliver (s : State) (t : Transaction) : State := { s with pending := t :: s.pending }

end Sys2Proof.Machine
end

