-- ==== Sys2Proof/Machine/BusRead.lean ====
section
/-! DEFINITION. The bus reads of 40_register_bank.md section 1. -/

namespace Sys2Proof.Machine

/-- `RD_BADSIZE` (R101). -/
def execRdBadSize (off size : Nat) (s : State) : Result := withBank s (s.badRead .badSize off size)

/-- `RD_OOB` (R102). -/
def execRdOob (off : Nat) (s : State) : Result := withBank s (s.badRead .outOfBounds off 4)

/-- `RD_CR` (R103). -/
def execRdCr (s : State) : Result := withBank s (s.handBack s.cr)

/-- `RD_SR`: reading clears nothing (R104). -/
def execRdSr (s : State) : Result := withBank s (s.handBack s.sr)

/-- `RD_DR`: the test reads SR bit 0, not CR bit 2 (R105, C3); ready, a fresh draw (R106); else 0 with `NoData` (R107). -/
def execRdDr (s : State) : Result :=
  withBank s (if dataReady s.sr then s.advanceDraw.handBack s.nextDraw else s.badRead .noData 0x8 4)

/-- `RD_INVALID` (R108). -/
def execRdInvalid (off : Nat) (s : State) : Result := withBank s (s.badRead .badOffset off 4)

end Sys2Proof.Machine
end

