-- ==== Sys2Proof/Machine/BusWrite.lean ====
section
/-! DEFINITION. The bus writes of 40_register_bank.md section 2. -/

namespace Sys2Proof.Machine

/-- `WR_BADSIZE` (R110; log 23). -/
def execWrBadSize (off size : Nat) (value : Word) (s : State) : Result := withBank s (s.log .badSize off size value)

/-- `WR_OOB` (R111; log 23). -/
def execWrOob (off : Nat) (value : Word) (s : State) : Result := withBank s (s.log .outOfBounds off 4 value)

/-- `WR_CR`: stores the word and derives SR bit 0 in the same step (R112, R113). -/
def execWrCr (value : Word) (s : State) : Result := withBank s ((s.setCr value).setSr (mergeReady s.sr value))

/-- `WR_SR`: the warning and the sticky clear are independent (R118, R119). -/
def execWrSr (value : Word) (s : State) : Result :=
  withBank s
    ((if setsReadOnlyBits value then s.log .statusReadOnlyBits 0x4 4 value else s).setSr (clearSticky s.sr value))

/-- `WR_DR` (R121). -/
def execWrDr (value : Word) (s : State) : Result := withBank s (s.log .writeReadOnly 0x8 4 value)

/-- `WR_INVALID` (R122). -/
def execWrInvalid (off : Nat) (value : Word) (s : State) : Result := withBank s (s.log .badOffset off 4 value)

end Sys2Proof.Machine
end

