-- ==== Sys2Proof/Machine/Gpio.lean ====
section
/-! DEFINITION. The signal splitter's one transaction (41_signal_splitter.md). -/

namespace Sys2Proof.Machine

/-- `GPIO_SET` (R140). -/
def execGpioSet (line : Line) (b : Bool) (s : State) : Result := withSplitters s (s.setInput line b)

end Sys2Proof.Machine
end

