-- ==== Sys2Proof/Machine/HostEvents.lean ====
section
/-! DEFINITION. The host events: composition (42_board_composer.md) and system reset (70_reset_and_hazards.md section 1). -/

namespace Sys2Proof.Machine

/-- `COMPOSE` (R160): once per run (R168), under legal parameters (R166; log 15). -/
def execCompose (s : State) : Result :=
  match s.phase with
  | .uncomposed => if s.params.legal then .next (composeBoard s) else refuse .misconfigured s
  | .running _ => refuse .composeTwice s
  | .aborted => .fault .aborted

/-- `RESET` (R201): clears the bank iff `SYSTEM_RESET_CLEARS_BANK`, and changes nothing else (R202; log 22). -/
def execReset (s : State) : Result :=
  match s.phase with
  | .uncomposed => refuse .noBoard s
  | .aborted => .fault .aborted
  | .running false => .next s
  | .running true => .next (if s.params.systemResetClearsBank then s.clearBank else s)

end Sys2Proof.Machine
end

