-- ==== Sys2Proof/Machine/Dispatch.lean ====
section
/-! DEFINITION. The meaning of each kind of transaction: one arm per row of opcode_table.json. -/

namespace Sys2Proof.Machine

def exec (i : Instr) (s : State) : Host.Outcome State Fault Refusal :=
  match i with
  | .rdBadSize off size => Sys2Proof.Machine.execRdBadSize off size s
  | .rdOob off => Sys2Proof.Machine.execRdOob off s
  | .rdCr => Sys2Proof.Machine.execRdCr s
  | .rdSr => Sys2Proof.Machine.execRdSr s
  | .rdDr => Sys2Proof.Machine.execRdDr s
  | .rdInvalid off => Sys2Proof.Machine.execRdInvalid off s
  | .wrBadSize off size value => Sys2Proof.Machine.execWrBadSize off size value s
  | .wrOob off value => Sys2Proof.Machine.execWrOob off value s
  | .wrCr value => Sys2Proof.Machine.execWrCr value s
  | .wrSr value => Sys2Proof.Machine.execWrSr value s
  | .wrDr value => Sys2Proof.Machine.execWrDr value s
  | .wrInvalid off value => Sys2Proof.Machine.execWrInvalid off value s
  | .gpioSet line b => Sys2Proof.Machine.execGpioSet line b s
  | .compose => Sys2Proof.Machine.execCompose s
  | .reset => Sys2Proof.Machine.execReset s

end Sys2Proof.Machine
end

