-- ==== Sys2Proof/Machine/Step.lean ====
section
/-! DEFINITION. One step: the next transaction of the sequence, decoded and run as one atomic step (R19, R21, R59). -/

namespace Sys2Proof.Machine

/-- One step. With no transaction pending no agent acts and the state stays (R212; log 4). -/
def step (s : State) : Host.Outcome State Fault Refusal :=
  match s.upcoming with
  | .dead => .fault .aborted
  | .idle => .next s
  | .run i t => exec i t
  | .reject e t => refuseDecode e t

/-- The state with the transaction of a packed word delivered as the very next one (log 5, log 6); a word that stands for no
transaction delivers nothing. -/
def State.withFetchWord (s : State) (nbits w : Nat) : State :=
  match Transaction.ofTableWord nbits w with
  | some t => s.deliver t
  | none => s

end Sys2Proof.Machine
end

