-- ==== Sys2Proof/Machine/Script.lean ====
section
/-! DEFINITION. The spec's script syntax for test programs and its pseudo-instructions (R83, R84, D22): a line's characters are
read into items, each a transaction or a poll loop, and items are run by the machine's own step. Logs 28, 33. -/

namespace Sys2Proof.Machine

/-- What a script line stands for (R83, R84). -/
inductive ScriptItem where
  /-- One transaction. -/
  | deliver (t : Transaction)
  /-- `poll <off>, <mask>, <val>`: `rd <off>` until `(result AND mask) = val` (R84). -/
  | poll (off : Nat) (mask val : Word)
  deriving DecidableEq, Repr

/-- The value of a digit, in either case of letter. -/
def digitValue (c : Char) : Option Nat :=
  if '0' ≤ c ∧ c ≤ '9' then some (c.toNat - '0'.toNat)
  else if 'a' ≤ c ∧ c ≤ 'f' then some (c.toNat - 'a'.toNat + 10)
  else if 'A' ≤ c ∧ c ≤ 'F' then some (c.toNat - 'A'.toNat + 10)
  else none

/-- The number that further digits in a base make of `n`. -/
def moreDigits (base n : Nat) : List Char → Option Nat
  | [] => some n
  | c :: rest =>
    match digitValue c with
    | some d => if d < base then moreDigits base (n * base + d) rest else none
    | none => none

/-- A number, hexadecimal with `0x` or decimal (R83); at least one digit. -/
def parseNumber : List Char → Option Nat
  | [] => none
  | ['0', 'x'] => none
  | '0' :: 'x' :: digits => moreDigits 16 0 digits
  | digits => moreDigits 10 0 digits

/-- An offset: a number, or the register name that stands for one (R83). -/
def parseOffset (w : List Char) : Option Nat :=
  if w = ['C', 'R'] then some 0x0
  else if w = ['S', 'R'] then some 0x4
  else if w = ['D', 'R'] then some 0x8
  else parseNumber w

/-- A level: 0 or 1 (R83). -/
def parseLevel (w : List Char) : Option Bool :=
  if w = ['0'] then some false else if w = ['1'] then some true else none

/-- The words of a line up to its comment, a comma being a word of its own; `cur` holds the word being read, reversed. -/
def scriptWords (cur : List Char) : List Char → List (List Char)
  | [] => endWord []
  | c :: rest =>
    if c = ';' then endWord []
    else if c = ' ' then endWord (scriptWords [] rest)
    else if c = ',' then endWord ([','] :: scriptWords [] rest)
    else scriptWords (c :: cur) rest
where
  endWord (more : List (List Char)) : List (List Char) := if cur = [] then more else cur.reverse :: more

/-- A command word and its size suffix, 4 where there is none (R83: `rd` and `rd.<n>`). -/
def commandSize (w : List Char) : Option (List Char × Nat) :=
  match w.dropWhile (· ≠ '.') with
  | [] => some (w, 4)
  | _ :: n => (parseNumber n).map fun size => (w.takeWhile (· ≠ '.'), size)

/-- The items of a line's words (R83, R84). DESIGN CHOICE (log 33, unsafe): a poll's mask and val are cut to bits 31:0, since R83 and
R84 give script numbers no width and D23 speaks of bus values only. A `wr` value is not cut here but by the decoder (D23). -/
def parseWords : List (List Char) → Option (List ScriptItem)
  | [] => some []
  | [w] =>
    if w = "compose".toList then some [.deliver (.host .compose)]
    else if w = "reset".toList then some [.deliver (.host .reset)]
    else if w = "enable".toList then some [.deliver (.busW 0x0 4 0x00000004)]
    else if w = "disable".toList then some [.deliver (.busW 0x0 4 0x00000000)]
    else if w = "clrsticky".toList then some [.deliver (.busW 0x4 4 0x00000000)]
    else if w = "rdrand".toList then some [.poll 0x4 0x1#32 0x1#32, .deliver (.busR 0x8 4)]
    else none
  | [w, x] => do
    let (c, size) ← commandSize w
    if c = "rd".toList then
      let off ← parseOffset x
      return [.deliver (.busR off size)]
    else none
  | [w, x, [','], y] => do
    if w = "gpio".toList then
      let line ← parseNumber x
      let b ← parseLevel y
      return [.deliver (.gpio line b)]
    else
      let (c, size) ← commandSize w
      if c = "wr".toList then
        let off ← parseOffset x
        let value ← parseNumber y
        return [.deliver (.busW off size value)]
      else none
  | [w, x, [','], y, [','], z] => do
    if w = "poll".toList then
      let off ← parseOffset x
      let mask ← parseNumber y
      let val ← parseNumber z
      return [.poll off (busWord mask) (busWord val)]
    else none
  | _ => none

/-- The items of a script line (R83); none if it is not one. -/
def parseLine (line : List Char) : Option (List ScriptItem) := parseWords (scriptWords [] line)

/-- The last word a read handed back meets the poll's condition (R84). -/
def State.pollDone (s : State) (mask val : Word) : Bool :=
  match s.returned.getLast? with
  | some v => v &&& mask == val
  | none => false

/-- At most `fuel` rounds of the poll loop; none when it has not ended by then, since its termination is the program's own
(R84, R133). -/
def runPoll (off : Nat) (mask val : Word) : Nat → State → Option Result
  | 0, _ => none
  | fuel + 1, s =>
    match step (s.deliver (.busR off 4)) with
    | .next t => if t.pollDone mask val then some (.next t) else runPoll off mask val fuel t
    | .fault r => some (.fault r)
    | .refused r => some (.refused r)

/-- One item, by the machine's step. -/
def runItem (fuel : Nat) (item : ScriptItem) (s : State) : Option Result :=
  match item with
  | .deliver t => some (step (s.deliver t))
  | .poll off mask val => runPoll off mask val fuel s

/-- The items of a script in order, each poll with `fuel` rounds; it stops where the machine stops. -/
def runScript (fuel : Nat) : List ScriptItem → State → Option Result
  | [], s => some (.next s)
  | item :: rest, s =>
    match runItem fuel item s with
    | some (.next t) => runScript fuel rest t
    | other => other

end Sys2Proof.Machine
end

