-- ==== Sys2Proof/Safety.lean ====
section
/-! DEFINITION. What claims speak of: a successful end of a run, and the invariants of the reached states. -/

namespace Sys2Proof.Safety

open Sys2Proof.Machine

/-- A successful end: a composed board, no refusal, and no agent taking a further step (R212). -/
def successfulEnd (s : State) : Bool :=
  match s.phase with
  | .running _ => !s.refused && s.pending.isEmpty
  | .uncomposed => false
  | .aborted => false

/-- While the bank exists, SR bit 0 is CR bit 2 (the invariant R25 derives). -/
def ReadyMirrorsEnable (s : State) : Prop :=
  s.phase = .running true → dataReady s.sr = enableBit s.cr

/-- While the bank exists, every SR bit but bit 0 is 0 (what R26 concludes from the construction value 0, log 10). -/
def OnlyReadyBit (s : State) : Prop :=
  s.phase = .running true → s.sr &&& 0xFFFFFFFE#32 = 0#32

/-- A composed board has legal parameters: no run starts under others (R166). -/
def RunsLegal (s : State) : Prop :=
  ∀ present, s.phase = .running present → s.params.legal = true

/-- Before composition nothing has been delivered to any consumer (R32, R203). -/
def QuietBeforeCompose (s : State) : Prop :=
  s.phase = .uncomposed → s.notes = [] ∧ ∀ c, s.seen c = none

/-- While the splitters exist, every output of a splitter is its level, and both its consumers have last seen it (R145). -/
def ConsumersMirror (s : State) : Prop :=
  s.phase = .running true →
    ∀ i : Line, (∀ k : Output, s.output i k = s.level[i]) ∧
      s.seen (.socIn s.params.pinMap[i]) = s.level[i] ∧ s.seen (.periphIn i) = s.level[i]

/-- The level of the last notification of `c` in a history (R32). -/
def lastNote (notes : List (Consumer × Bool)) (c : Consumer) : Option Bool :=
  (notes.reverse.find? fun n => n.1 = c).map Prod.snd

/-- What a consumer has last seen is the last notification delivered to it, for every consumer (R32, R141). -/
def SeenIsLastNote (s : State) : Prop := ∀ c, s.seen c = lastNote s.notes c

/-- No refusal has happened: a refused step has no successor (R34, R196). -/
def Unrefused (s : State) : Prop := s.refused = false

end Sys2Proof.Safety
end

