-- ==== Sys2Proof/Certificates/Slice0/Obligations.lean ====
section
/-! DEFINITION. The statements for the provers. Each docstring names the rule it formalises and its witness in
Sys2Proof/Tests/Slice0.lean. A next state written `{ s with … }` says the whole frame: every field not named is unchanged.
There is no memory (R50), so no statement speaks of bytes. -/

open Sys2Proof Sys2Proof.Machine Sys2Proof.Safety

/-! ## The initial state and the order of steps -/

/-- R203: the initial state of a run, in which a read of CR, SR or DR is refused. The values of CR, SR and the levels are not
stated (log 9). -/
def Obligations.InitialStateOfARun : Prop :=
  State.reset.phase = .uncomposed ∧ State.reset.diags = [] ∧ State.reset.notes = [] ∧ State.reset.refused = false ∧
    (∀ c, State.reset.seen c = none) ∧
    exec .rdCr State.reset = .refused (.noRegisterBank { State.reset with refused := true }) ∧
    exec .rdSr State.reset = .refused (.noRegisterBank { State.reset with refused := true }) ∧
    exec .rdDr State.reset = .refused (.noRegisterBank { State.reset with refused := true })

/-- R21: a step runs the next transaction of the sequence, decoded, and advances nothing but the position in it. That the sequence is the
list `pending` is the model's choice (log 4); that Aborted answers the fault is the model's reading of R165 and R196 (log 8, DEDUCED).
Witness: `witness_pending_runs`, `witness_aborted`. -/
def Obligations.StepRunsDecodedTransaction : Prop :=
  ∀ (s : State) (tr : Transaction) (rest : List Transaction) (i : Instr),
    s.pending = tr :: rest → decode s.params.regionSize tr = .instr i →
    step s = (if s.phase = .aborted then .fault .aborted else exec i { s with pending := rest })

/-- The MODEL's choice (log 4): with nothing pending no agent acts, and the state stays. R212 says agents may stop. Witness:
`witness_idle`. -/
def Obligations.StepIdlesWithNothingPending : Prop :=
  ∀ s : State, s.pending = [] → s.phase ≠ .aborted → step s = .next s

/-! ## Decode -/

/-- R79 and its table: an encoded kind decodes to itself, with every operand at every value R79 admits. Witness:
`witness_encode`. -/
def Obligations.DecodeOfEncode : Prop :=
  ∀ (regionSize : Nat) (i : Instr), i.wellFormed regionSize = true → decode regionSize (encode i) = .instr i

/-- R79: what a transaction decodes to is selected by R79's conditions, and is that transaction, its bus value cut to bits 31:0
(R75, D23). The region is a legal one (R10). Witness: `witness_decoded`. -/
def Obligations.DecodeSelectsByItsConditions : Prop :=
  ∀ (regionSize : Nat) (tr : Transaction) (i : Instr), 0xC ≤ regionSize → decode regionSize tr = .instr i →
    i.wellFormed regionSize = true ∧ encode i = tr.narrow

/-- R78: the decode of `GPIO` and `HOST`, for every line. -/
def Obligations.DecodeOfGpioAndHost : Prop :=
  ∀ regionSize : Nat,
    (∀ (line : Line) (b : Bool), decode regionSize (.gpio line.val b) = .instr (.gpioSet line b)) ∧
    (∀ (line : Nat) (b : Bool), 13 ≤ line → decode regionSize (.gpio line b) = .refused (.badLine line)) ∧
    decode regionSize (.host .compose) = .instr .compose ∧ decode regionSize (.host .reset) = .instr .reset

/-- Field tuples of R79 decode to their kinds, in a region of 0x10 bytes. -/
def Obligations.DecodedTuples : Prop :=
  decode 0x10 (.busR 0x0 1) = .instr (.rdBadSize 0x0 1) ∧ decode 0x10 (.busR 0x10 4) = .instr (.rdOob 0x10) ∧
    decode 0x10 (.busR 0x8 4) = .instr .rdDr ∧ decode 0x10 (.busR 0xC 4) = .instr (.rdInvalid 0xC) ∧
    decode 0x10 (.busW 0x0 4 0xFFFFFFFB) = .instr (.wrCr 0xFFFFFFFB#32) ∧
    decode 0x10 (.busW 0x4 4 0x20) = .instr (.wrSr 0x20#32) ∧ decode 0x10 (.busW 0x1 4 4) = .instr (.wrInvalid 0x1 4#32) ∧
    decode 0x10 (.gpio 12 true) = .instr (.gpioSet 12 true) ∧ decode 0x10 (.gpio 13 true) = .refused (.badLine 13)

/-- R18, R51: the offset of a bus read or write is its bus address minus `RNG_BASE`; that an address below the base is no transaction
of the bank is the model's choice (log 32). Witness: `witness_below_base`. -/
def Obligations.OffsetIsAddressMinusBase : Prop :=
  ∀ (p : Params) (size value : Nat),
    (∀ off, p.readAt (p.rngBase + off) size = some (.busR off size) ∧
      p.writeAt (p.rngBase + off) size value = some (.busW off size value)) ∧
    ∀ addr, addr < p.rngBase → p.readAt addr size = none ∧ p.writeAt addr size value = none

/-- R147, R171: under legal parameters, driving the output pin `PIN_MAP(i)` is the `GPIO` transaction of line `i`. Witness:
`witness_legal`. -/
def Obligations.DrivenPinIsItsLine : Prop :=
  ∀ (p : Params) (i : Line) (b : Bool), p.legal = true → p.driveAt p.pinMap[i] b = some (.gpio i.val b)

/-! ## Reads -/

/-- R101: a read of the wrong size, at any offset. Witness: `witness_running_badsize`. -/
def Obligations.ReadOfWrongSize : Prop :=
  ∀ (s : State) (off size : Nat), s.phase = .running true → size ≠ 4 →
    (∀ regionSize, decode regionSize (.busR off size) = .instr (.rdBadSize off size)) ∧
    exec (.rdBadSize off size) s =
      .next { s with diags := s.diags ++ [⟨.badSize, off, size, 0⟩], returned := s.returned ++ [0] }

/-- R102: a read at or past the end of the region. Witness: `witness_running_oob`. -/
def Obligations.ReadOutOfBounds : Prop :=
  ∀ (s : State) (off : Nat), s.phase = .running true → s.params.regionSize ≤ off →
    decode s.params.regionSize (.busR off 4) = .instr (.rdOob off) ∧
    exec (.rdOob off) s =
      .next { s with diags := s.diags ++ [⟨.outOfBounds, off, 4, 0⟩], returned := s.returned ++ [0] }

/-- R103: a read of CR returns all 32 bits as last written, and 0 right after composition (the
construction value R103 names is the spec's decision D5, log 10). Witness: `witness_running_legal`, `witness_composed`. -/
def Obligations.ReadOfControl : Prop :=
  (∀ s : State, s.phase = .running true →
    (0xC ≤ s.params.regionSize → decode s.params.regionSize (.busR 0x0 4) = .instr .rdCr) ∧
    exec .rdCr s = .next { s with returned := s.returned ++ [s.cr] } ∧
    ∀ v : Word, ∃ t, exec (.wrCr v) s = .next t ∧ exec .rdCr t = .next { t with returned := t.returned ++ [v] }) ∧
  ∀ s t : State, exec .compose s = .next t → t.phase = .running true →
    exec .rdCr t = .next { t with returned := t.returned ++ [0] }

/-- R104: a read of SR returns it and clears nothing; bit 0 is bit 2 of the last CR write, and 0 right after composition (the
construction value is the spec's decision D5, log 10). Witness: `witness_running_legal`, `witness_composed`. -/
def Obligations.ReadOfStatus : Prop :=
  (∀ s : State, s.phase = .running true →
    (0xC ≤ s.params.regionSize → decode s.params.regionSize (.busR 0x4 4) = .instr .rdSr) ∧
    exec .rdSr s = .next { s with returned := s.returned ++ [s.sr] } ∧
    ∀ v : Word, ∃ t, exec (.wrCr v) s = .next t ∧ t.sr.getLsbD 0 = v.getLsbD 2 ∧
      exec .rdSr t = .next { t with returned := t.returned ++ [t.sr] }) ∧
  ∀ s t : State, exec .compose s = .next t → t.phase = .running true →
    ∃ w : Word, w.getLsbD 0 = false ∧ exec .rdSr t = .next { t with returned := t.returned ++ [w] }

/-- R105, R106, R107: the DR read tests SR bit 0: set, it hands back bits 31:0 of the next entropy draw, whatever that is, and takes
it; clear, it hands back 0 with `NoData` and takes none. Witness: `witness_running_legal`. -/
def Obligations.ReadOfData : Prop :=
  ∀ s : State, s.phase = .running true →
    (0xC ≤ s.params.regionSize → decode s.params.regionSize (.busR 0x8 4) = .instr .rdDr) ∧
    exec .rdDr s =
      if s.sr.getLsbD 0 = true then
        .next { s with draws := s.draws + 1, returned := s.returned ++ [(Config.entropy s.draws).setWidth 32] }
      else
        .next { s with diags := s.diags ++ [⟨.noData, 0x8, 4, 0⟩], returned := s.returned ++ [0] }

/-- R108: a 4-byte read inside the region that hits no register. Witness: `witness_running_invalid`. -/
def Obligations.ReadOfInvalidOffset : Prop :=
  ∀ (s : State) (off : Nat), s.phase = .running true → off < s.params.regionSize → off ≠ 0x0 → off ≠ 0x4 → off ≠ 0x8 →
    decode s.params.regionSize (.busR off 4) = .instr (.rdInvalid off) ∧
    exec (.rdInvalid off) s =
      .next { s with diags := s.diags ++ [⟨.badOffset, off, 4, 0⟩], returned := s.returned ++ [0] }

/-- R109: a read's only effects are its return value, a draw (a ready DR read only) and at most one diagnostic. Witness:
`witness_running_read`. -/
def Obligations.ReadsChangeNothingElse : Prop :=
  ∀ (s : State) (i : Instr), s.phase = .running true → i.isRead = true →
    ∃ (w : Word) (events : List Diag) (n : Nat),
      exec i s = .next { s with returned := s.returned ++ [w], diags := s.diags ++ events, draws := n } ∧
      events.length ≤ 1 ∧ n = s.draws + (if i = .rdDr ∧ s.sr.getLsbD 0 = true then 1 else 0)

/-- R186: what a read logs, through decode and step: the first condition that holds, and nothing for a serviced register. Witness:
`witness_pending_read`, `witness_read_clauses`. -/
def Obligations.DiagnosticOfARead : Prop :=
  ∀ (s : State) (off size : Nat) (rest : List Transaction), s.phase = .running true →
    s.pending = .busR off size :: rest →
    ∃ t, step s = .next t ∧
      t.diags = s.diags ++
        (if size ≠ 4 then [⟨.badSize, off, size, 0⟩]
         else if s.params.regionSize ≤ off then [⟨.outOfBounds, off, 4, 0⟩]
         else if off = 0x0 ∨ off = 0x4 then []
         else if off = 0x8 then (if s.sr.getLsbD 0 = true then [] else [⟨.noData, 0x8, 4, 0⟩])
         else [⟨.badOffset, off, 4, 0⟩])

/-! ## Writes -/

/-- A write of the wrong size logs and changes nothing: the spec's own decision D7 (rule R110 carries it; log 23). Witness:
`witness_running_badsize`. -/
def Obligations.WriteOfWrongSize : Prop :=
  ∀ (s : State) (off size : Nat) (v : Word), s.phase = .running true → size ≠ 4 →
    (∀ regionSize, decode regionSize (.busW off size v.toNat) = .instr (.wrBadSize off size v)) ∧
    exec (.wrBadSize off size v) s = .next { s with diags := s.diags ++ [⟨.badSize, off, size, v⟩] }

/-- A write at or past the end of the region changes nothing; its label `OutOfBounds` is the spec's own decision D8 (rule R111
carries it; log 23). Witness: `witness_running_oob`. -/
def Obligations.WriteOutOfBounds : Prop :=
  ∀ (s : State) (off : Nat) (v : Word), s.phase = .running true → s.params.regionSize ≤ off →
    decode s.params.regionSize (.busW off 4 v.toNat) = .instr (.wrOob off v) ∧
    exec (.wrOob off v) s = .next { s with diags := s.diags ++ [⟨.outOfBounds, off, 4, v⟩] }

/-- R112, R113: a CR write stores the word and copies bit 2 into SR bit 0 in the same step. Witness: `witness_running_legal`. -/
def Obligations.WriteOfControl : Prop :=
  ∀ (s : State) (v : Word), s.phase = .running true →
    (0xC ≤ s.params.regionSize → decode s.params.regionSize (.busW 0x0 4 v.toNat) = .instr (.wrCr v)) ∧
    exec (.wrCr v) s =
      .next { s with cr := v, sr := (s.sr &&& 0xFFFFFFFE#32) ||| (v.extractLsb' 2 1).setWidth 32 }

/-- R118, R119: an SR write clears bits 5 and 6 where the value holds 0, and logs exactly when value bits 2:0 are not 0. Witness:
`witness_running_legal`. -/
def Obligations.WriteOfStatus : Prop :=
  ∀ (s : State) (v : Word), s.phase = .running true →
    (0xC ≤ s.params.regionSize → decode s.params.regionSize (.busW 0x4 4 v.toNat) = .instr (.wrSr v)) ∧
    exec (.wrSr v) s =
      .next { s with
        sr := s.sr &&& (v ||| 0xFFFFFF9F#32)
        diags := s.diags ++ (if v.extractLsb' 0 3 ≠ 0#3 then [⟨.statusReadOnlyBits, 0x4, 4, v⟩] else []) }

/-- R121: a DR write changes nothing, enabled or not, and logs. Witness: `witness_running_legal`. -/
def Obligations.WriteOfData : Prop :=
  ∀ (s : State) (v : Word), s.phase = .running true →
    (0xC ≤ s.params.regionSize → decode s.params.regionSize (.busW 0x8 4 v.toNat) = .instr (.wrDr v)) ∧
    exec (.wrDr v) s = .next { s with diags := s.diags ++ [⟨.writeReadOnly, 0x8, 4, v⟩] }

/-- R122: a 4-byte write inside the region that hits no register. Witness: `witness_running_invalid`. -/
def Obligations.WriteOfInvalidOffset : Prop :=
  ∀ (s : State) (off : Nat) (v : Word), s.phase = .running true → off < s.params.regionSize →
    off ≠ 0x0 → off ≠ 0x4 → off ≠ 0x8 →
    decode s.params.regionSize (.busW off 4 v.toNat) = .instr (.wrInvalid off v) ∧
    exec (.wrInvalid off v) s = .next { s with diags := s.diags ++ [⟨.badOffset, off, 4, v⟩] }

/-- The order of checks on a write is the spec's own decision D7 (rule R187 carries it; log 23): what a write logs, through decode
and step, for a bus value of any width. That a 4-byte write's value is cut to bits 31:0 is the spec's decision D23; that a wrong-size
write's diagnostic records bits 31:0 of a wider value is the model's reading (log 18, DEDUCED). Witness: `witness_pending_write`, `witness_write_clauses`. -/
def Obligations.DiagnosticOfAWrite : Prop :=
  ∀ (s : State) (off size value : Nat) (rest : List Transaction), s.phase = .running true →
    s.pending = .busW off size value :: rest →
    ∃ t, step s = .next t ∧
      t.diags = s.diags ++
        (if size ≠ 4 then [⟨.badSize, off, size, BitVec.ofNat 32 value⟩]
         else if s.params.regionSize ≤ off then [⟨.outOfBounds, off, 4, BitVec.ofNat 32 value⟩]
         else if off = 0x0 then []
         else if off = 0x4 then
           (if value % 8 = 0 then [] else [⟨.statusReadOnlyBits, 0x4, 4, BitVec.ofNat 32 value⟩])
         else if off = 0x8 then [⟨.writeReadOnly, 0x8, 4, BitVec.ofNat 32 value⟩]
         else [⟨.badOffset, off, 4, BitVec.ofNat 32 value⟩])

/-- The laws the spec derives in R114 and R120, bit by bit: a CR write changes no SR bit but bit 0; an SR write changes no bit but 5
and 6, sets none, and clears each of the two exactly where the value holds 0. Witness: `witness_running_legal`. -/
def Obligations.StatusBitsAfterWrites : Prop :=
  ∀ (s : State) (v : Word) (j : Nat), s.phase = .running true →
    (∃ t, exec (.wrCr v) s = .next t ∧ t.sr.getLsbD j = if j = 0 then v.getLsbD 2 else s.sr.getLsbD j) ∧
    ∃ t, exec (.wrSr v) s = .next t ∧
      t.sr.getLsbD j = if j = 5 ∨ j = 6 then s.sr.getLsbD j && v.getLsbD j else s.sr.getLsbD j

/-- The idempotence the spec derives in R57, R115 and R120 (property 7 of the source): a second equal write changes neither
register. Witness: `witness_running_legal`. -/
def Obligations.RepeatedWritesAreIdempotent : Prop :=
  ∀ (s : State) (v : Word), s.phase = .running true →
    (∃ t u, exec (.wrCr v) s = .next t ∧ exec (.wrCr v) t = .next u ∧ u = t) ∧
    ∃ t u, exec (.wrSr v) s = .next t ∧ exec (.wrSr v) t = .next u ∧ u.sr = t.sr ∧ u.cr = t.cr ∧ t.cr = s.cr

/-- R60: the SR read right after a CR write hands back the derived bit. Witness: `witness_running_legal`. -/
def Obligations.StatusReadSeesControlWrite : Prop :=
  ∀ (s : State) (v : Word), s.phase = .running true →
    ∃ t u w, exec (.wrCr v) s = .next t ∧ exec .rdSr t = .next u ∧ u.returned = s.returned ++ [w] ∧
      w.getLsbD 0 = v.getLsbD 2

/-- R113: over the bus and GPIO transactions, a CR write is the only path that changes SR bit 0, which becomes `v[2]`, and the only one
that changes CR. Witness: `witness_running_bus`. -/
def Obligations.OnlyControlWritesMoveReadyBit : Prop :=
  ∀ (s : State) (i : Instr), s.phase = .running true → i.agent ≠ .host →
    ∃ t, exec i s = .next t ∧
      match i with
      | .wrCr v => t.cr = v ∧ t.sr.getLsbD 0 = v.getLsbD 2
      | _ => t.cr = s.cr ∧ t.sr.getLsbD 0 = s.sr.getLsbD 0

/-! ## Signal splitters -/

/-- R142 (with the effect of R140, and R29's outputs): `GPIO_SET` sets the level, which both outputs mirror, and, in the same step and whatever the level
was, reaches both consumers; every other consumer, the register bank and the rest are unchanged. The order of the two notifications is
not stated (R143). Where it is refused is `GpioRefusedWithoutSplitters`. Witness: `witness_running_legal`. -/
def Obligations.GpioSetReachesBothConsumers : Prop :=
  ∀ (s : State) (i : Line) (b : Bool), s.phase = .running true →
    ∃ t, exec (.gpioSet i b) s = .next t ∧
      t = { s with level := s.level.set i (some b), seenSoc := t.seenSoc, seenPeriph := t.seenPeriph, notes := t.notes } ∧
      (∀ k : Output, t.output i k = some b) ∧
      t.seen (.socIn s.params.pinMap[i]) = some b ∧ t.seen (.periphIn i) = some b ∧
      (∀ c, c ≠ .socIn s.params.pinMap[i] → c ≠ .periphIn i → t.seen c = s.seen c) ∧
      ∃ new : List (Consumer × Bool), t.notes = s.notes ++ new ∧
        new.Perm [(.socIn s.params.pinMap[i], b), (.periphIn i, b)]

/-- R59, R146: a bus transaction and a GPIO change of the same run commute: neither reads nor writes what the other does. Witness:
`witness_running_bus`. -/
def Obligations.BusAndGpioCommute : Prop :=
  ∀ (s : State) (i : Instr) (line : Line) (b : Bool), s.phase = .running true → i.agent = .busMaster →
    ∃ t t' u, exec i s = .next t ∧ exec (.gpioSet line b) s = .next t' ∧
      exec (.gpioSet line b) t = .next u ∧ exec i t' = .next u

/-- R32, R109, R146, R202: only GPIO transactions write a consumer record or the notification history, and a bus transaction writes
no level. Witness: `witness_running_bus`. -/
def Obligations.OnlyGpioNotifies : Prop :=
  ∀ (s t : State) (i : Instr), i.agent ≠ .gpioDriver → exec i s = .next t →
    t.notes = s.notes ∧ (∀ c, t.seen c = s.seen c) ∧ (i.agent = .busMaster → t.level = s.level)

/-! ## Composition -/

/-- R160, R163, with the spec's construction values of R200 (its decision D5, log 10): a successful composition. The board has 13 splitters
and the wiring of its parameters, 26 of whose arrows reach a consumer. Witness: `witness_compose_ok`. -/
def Obligations.ComposeBuildsTheBoard : Prop :=
  ∀ s : State, s.phase = .uncomposed → s.params.legal = true → s.params.peripheralPresent = true →
    s.realize.socOk = true → s.realize.periphOk = true → (∀ i : Line, s.realize.splitOk[i] = true) →
    ∃ t, exec .compose s = .next t ∧
      t = { s with phase := .running true, cr := 0, sr := 0, level := Vector.replicate 13 none } ∧
      t.splitterCount = 13 ∧ t.wiring = wiring s.params ∧
      (t.wiring.filter fun e => e.2.layer == 3).length = 26

/-- R161: without its SoC the board is aborted, whatever the other draws and parameters. Witness: `witness_soc_fails`. -/
def Obligations.SocFailureAborts : Prop :=
  ∀ s : State, s.phase = .uncomposed → s.params.legal = true → s.realize.socOk = false →
    exec .compose s = .next { s with phase := .aborted }

/-- R167: an absent peripheral is no failure: the board runs with no splitter, no wiring and no register bank. That the bank is absent with
the peripheral is the spec's decision D12 (log 25), and that a bus transaction is then refused `NoRegisterBank` its decision D21
(rules R100 and R196 carry it). Witness: `witness_absent`. -/
def Obligations.AbsentPeripheralRunsWithoutBank : Prop :=
  ∀ s : State, s.phase = .uncomposed → s.params.legal = true → s.realize.socOk = true →
    s.params.peripheralPresent = false →
    ∃ t, exec .compose s = .next t ∧ t = { s with phase := .running false } ∧ t.splitterCount = 0 ∧ t.wiring = [] ∧
      ∀ i : Instr, i.agent = .busMaster → exec i t = .refused (.noRegisterBank { t with refused := true })

/-- R165: once the peripheral is present, its failure or any splitter's aborts the board, and an aborted board enables no step of any
agent. That step and every kind then answer the fault, not the refusals of R100, R140 and R168, is the model's reading of R165 and R196
(log 8, DEDUCED). Witness: `witness_periph_fails`, `witness_splitter_fails`, `witness_aborted`. -/
def Obligations.PeripheralFailureAborts : Prop :=
  (∀ s : State, s.phase = .uncomposed → s.params.legal = true → s.realize.socOk = true →
    s.params.peripheralPresent = true →
    (s.realize.periphOk = false ∨ ∃ i : Line, s.realize.splitOk[i] = false) →
    ∃ t, exec .compose s = .next t ∧ t.phase = .aborted) ∧
  ∀ s : State, s.phase = .aborted → step s = .fault .aborted ∧ ∀ i : Instr, exec i s = .fault .aborted

/-- The model's reading of the loop in R160's pseudocode (log 30, DEDUCED): a failure at splitter `i` stops it there, with the registers at
the construction values of the spec's decision D5 (log 10) and the lines before `i` undriven, and nothing else changed. Witness:
`witness_splitter_fails`. -/
def Obligations.SplitterFailureStopsTheLoop : Prop :=
  ∀ (s : State) (i : Line), s.phase = .uncomposed → s.params.legal = true → s.realize.socOk = true →
    s.params.peripheralPresent = true → s.realize.periphOk = true → s.realize.splitOk[i] = false →
    (∀ j : Line, j < i → s.realize.splitOk[j] = true) →
    ∃ lv, exec .compose s = .next { s with phase := .aborted, cr := 0, sr := 0, level := lv } ∧
      ∀ j : Line, lv[j] = if j < i then none else s.level[j]

/-- R168: composition happens once: a second `COMPOSE` is refused, and no step changes the phase of a composed board. Witness:
`witness_running_legal`, `witness_no_bank`. -/
def Obligations.ComposeHappensOnce : Prop :=
  ∀ (s : State) (present : Bool), s.phase = .running present →
    exec .compose s = .refused (.composeTwice { s with refused := true }) ∧
    (∀ (i : Instr) (t : State), exec i s = .next t → t.phase = .running present) ∧
    ∀ t : State, step s = .next t → t.phase = .running present

/-- R166 and R196 (the spec's decision D21, log 15, log 16): parameters that violate R10 or R14 are refused at `COMPOSE`. Witness:
`witness_illegal`. -/
def Obligations.IllegalParametersAreRefused : Prop :=
  ∀ s : State, s.phase = .uncomposed →
    s.params.regionSize < 0xC ∨ s.params.regionSize % 4 ≠ 0 ∨
      (∃ i j : Line, i ≠ j ∧ s.params.pinMap[i] = s.params.pinMap[j]) →
    exec .compose s = .refused (.misconfigured { s with refused := true })

/-- R164, R169: under legal parameters the 26 splitter outputs feed 26 distinct consumer inputs, each from exactly one splitter. The arrows
of the graph are: SoC output pin of an entry to the input of its splitter, that input to its two outputs, each output to its consumer;
each leads one layer on, so there is no cycle. Witness: `witness_legal`. -/
def Obligations.WiringFeedsEachConsumerOnce : Prop :=
  ∀ p : Params, p.legal = true →
    (consumers p).length = 26 ∧ (consumers p).Nodup ∧
    (∀ (i j : Line) (k l : Output), consumerOf p i k = consumerOf p j l → i = j ∧ k = l) ∧
    (∀ (i : Line) (e : Endpoint), (e, Endpoint.splitterIn i) ∈ wiring p ↔ e = .socOut p.pinMap[i]) ∧
    (∀ (i : Line) (e : Endpoint), (Endpoint.socOut p.pinMap[i], e) ∈ wiring p ↔ e = .splitterIn i) ∧
    (∀ (i : Line) (e : Endpoint), (Endpoint.splitterIn i, e) ∈ wiring p ↔ e = .splitterOut i 0 ∨ e = .splitterOut i 1) ∧
    (∀ (i : Line) (k : Output) (e : Endpoint), (e, Endpoint.splitterOut i k) ∈ wiring p ↔ e = .splitterIn i) ∧
    (∀ (i : Line) (k : Output) (e : Endpoint),
      (Endpoint.splitterOut i k, e) ∈ wiring p ↔ e = .consumer (if k = 0 then .socIn p.pinMap[i] else .periphIn i)) ∧
    ∀ a b : Endpoint, (a, b) ∈ wiring p → b.layer = a.layer + 1

/-! ## Reset and refusals -/

/-- R201, R202 (the spec's decision D6, log 22): `RESET` in each phase. In Aborted R201 has no step; that the model answers the fault
there is log 8 (DEDUCED). Witness: `witness_running_legal`, `witness_no_bank`, `witness_aborted`. -/
def Obligations.SystemResetByPhase : Prop :=
  ∀ s : State,
    (s.phase = .running true → exec .reset s =
      .next (if s.params.systemResetClearsBank = true then { s with cr := 0, sr := 0 } else s)) ∧
    (s.phase = .running false → exec .reset s = .next s) ∧
    (s.phase = .uncomposed → exec .reset s = .refused (.noBoard { s with refused := true })) ∧
    (s.phase = .aborted → exec .reset s = .fault .aborted)

/-- R100, R196 (the spec's decision D21): every bus transaction is refused where there is no register bank. Witness:
`witness_no_bank`. -/
def Obligations.BusRefusedWithoutBank : Prop :=
  ∀ (s : State) (i : Instr), s.phase = .uncomposed ∨ s.phase = .running false → i.agent = .busMaster →
    exec i s = .refused (.noRegisterBank { s with refused := true })

/-- R140, R196 (the spec's decision D21): `GPIO_SET` is refused where there are no splitters. Witness: `witness_no_bank`. -/
def Obligations.GpioRefusedWithoutSplitters : Prop :=
  ∀ (s : State) (i : Line) (b : Bool), s.phase = .uncomposed ∨ s.phase = .running false →
    exec (.gpioSet i b) s = .refused (.noSplitter { s with refused := true })

/-- R65, R166, R196 (the spec's decisions D20, D21; log 16, log 17): a step refuses a line outside 0..12 and a fetch from the region.
Witness: `witness_pending_rejected`. -/
def Obligations.UndecodableTransactionsAreRefused : Prop :=
  ∀ (s : State) (rest : List Transaction), s.phase ≠ .aborted →
    (∀ (line : Nat) (b : Bool), s.pending = .gpio line b :: rest → 13 ≤ line →
      step s = .refused (.badLine line { s with pending := rest, refused := true })) ∧
    ∀ off : Nat, s.pending = .fetch off :: rest →
      step s = .refused (.instrFetch off { s with pending := rest, refused := true })

/-! ## Invariants and rules of the whole machine -/

/-- The invariant the spec derives in R25: SR bit 0 is CR bit 2 while the bank exists, and every step keeps it. Witness:
`witness_invariants`. -/
def Obligations.StepKeepsReadyMirrorsEnable : Prop :=
  ∀ s t : State, ReadyMirrorsEnable s → step s = .next t → ReadyMirrorsEnable t

/-- What the spec concludes in R26 from its construction value (D5, log 10): every step keeps all SR bits but bit 0 at 0. Witness:
`witness_invariants`. -/
def Obligations.StepKeepsOnlyReadyBit : Prop :=
  ∀ s t : State, OnlyReadyBit s → step s = .next t → OnlyReadyBit t

/-- The invariant the spec derives in R145: both outputs of a splitter are its level, and both consumers have last seen it. It rests on
the parameters of a composed board being legal (R166) and on nothing having been delivered before composition (R203). Witness:
`witness_invariants`. -/
def Obligations.StepKeepsConsumersMirror : Prop :=
  ∀ s t : State, RunsLegal s → QuietBeforeCompose s → ConsumersMirror s → step s = .next t →
    RunsLegal t ∧ QuietBeforeCompose t ∧ ConsumersMirror t

/-- R32, R141: every step keeps the consumer records in agreement with the notification history. Witness: `witness_invariants`. -/
def Obligations.StepKeepsSeenIsLastNote : Prop :=
  ∀ s t : State, SeenIsLastNote s → step s = .next t → SeenIsLastNote t

/-- The initial state meets the invariants. They say nothing of the values log 9 names. -/
def Obligations.InitialStateMeetsInvariants : Prop :=
  ReadyMirrorsEnable State.reset ∧ OnlyReadyBit State.reset ∧ RunsLegal State.reset ∧ QuietBeforeCompose State.reset ∧
    ConsumersMirror State.reset ∧ SeenIsLastNote State.reset ∧ Unrefused State.reset

/-- What the spec derives in R26 (b), from any state: no step sets an SR bit other than bit 0. Witness: `witness_pending_runs`. -/
def Obligations.NoStepSetsAStatusBit : Prop :=
  ∀ (s t : State) (j : Nat), step s = .next t → j ≠ 0 → t.sr.getLsbD j = true → s.sr.getLsbD j = true

/-- R28 and what the spec derives in R188: the diagnostics log only grows, by at most one event a step. Witness:
`witness_pending_runs`. -/
def Obligations.StepLogsAtMostOneDiagnostic : Prop :=
  ∀ s t : State, step s = .next t → ∃ events, t.diags = s.diags ++ events ∧ events.length ≤ 1

/-- R34, R162, R196: a step that has a successor sets no refusal mark and changes no parameter. That the realize outcomes stand in State,
and stay, is the model's choice (log 2; R35 makes them draws of a step), as is that the parameters stand there (log 1). Witness:
`witness_pending_runs`. -/
def Obligations.StepKeepsParametersAndMark : Prop :=
  ∀ s t : State, step s = .next t → t.params = s.params ∧ t.realize = s.realize ∧ t.refused = s.refused

/-! ## Byte lanes and the firmware handshake -/

/-- R52 (the spec's decision D2, log 26): the lanes of a word laid out as bytes are little-endian, and give the word back. -/
def Obligations.ByteLanesAreLittleEndian : Prop :=
  ∀ v : Word, byteLane v 0 = v.extractLsb' 0 8 ∧ byteLane v 3 = v.extractLsb' 24 8 ∧
    ofByteLanes (byteLane v 0) (byteLane v 1) (byteLane v 2) (byteLane v 3) = v

/-- R206, R207, R84: the handshake of the firmware. From any composed board, enable, poll SR bit 0 with one round, read DR: it completes,
hands back the status word and then a fresh draw, and logs nothing. Witness: `witness_running_legal`. -/
def Obligations.HandshakeYieldsAFreshDraw : Prop :=
  ∀ s : State, s.phase = .running true → 0xC ≤ s.params.regionSize →
    ∃ t w, runScript 1 [.deliver (.busW 0x0 4 0x4), .poll 0x4 0x1#32 0x1#32, .deliver (.busR 0x8 4)] s = some (.next t) ∧
      w.getLsbD 0 = true ∧ t.returned = s.returned ++ [w, (Config.entropy s.draws).setWidth 32] ∧
      t = { s with cr := 0x4#32, sr := t.sr, draws := s.draws + 1, returned := t.returned }
end

