-- ==== Sys2Proof/Laws/Flags.lean ====
section
/-! SUPPORT. The three bitwise computations of R132, bit by bit. -/

namespace Sys2Proof.Machine

/-- R112: bit 0 becomes `v[2]`, every other bit stays. -/
theorem getLsbD_mergeReady (sr v : Word) (j : Nat) :
    (mergeReady sr v).getLsbD j = if j = 0 then v.getLsbD 2 else sr.getLsbD j := by
  unfold mergeReady
  by_cases hj : j < 32
  · interval_cases j <;> simp
  · have := sr.getLsbD_of_ge j (by omega)
    have hz : j ≠ 0 := by omega
    simp [hj, hz, this]

/-- R118: bits 5 and 6 survive only where `v` holds 1, every other bit stays. -/
theorem getLsbD_clearSticky (sr v : Word) (j : Nat) :
    (clearSticky sr v).getLsbD j = (sr.getLsbD j && (v.getLsbD j || !(j == 5 || j == 6))) := by
  unfold clearSticky
  by_cases hj : j < 32
  · interval_cases j <;> simp
  · have := sr.getLsbD_of_ge j (by omega)
    simp [this]

/-- R118: the warning test is about bits 2, 1 and 0 of the written value. -/
theorem setsReadOnlyBits_iff (v : Word) :
    setsReadOnlyBits v = (v.getLsbD 0 || v.getLsbD 1 || v.getLsbD 2) := by
  have h (x : BitVec 3) : (x != 0#3) = (x.getLsbD 0 || x.getLsbD 1 || x.getLsbD 2) := by
    revert x; decide
  simp [setsReadOnlyBits, h]

end Sys2Proof.Machine
end

