-- ==== Sys2Proof/Laws/State.lean ====
section
/-! SUPPORT. One lemma per field per state update, so that no later proof unfolds a record update. -/

namespace Sys2Proof.Machine

variable (s : State)

@[simp] theorem State.handBack_phase (v : Word) : (s.handBack v).phase = s.phase := rfl
@[simp] theorem State.handBack_cr (v : Word) : (s.handBack v).cr = s.cr := rfl
@[simp] theorem State.handBack_sr (v : Word) : (s.handBack v).sr = s.sr := rfl
@[simp] theorem State.handBack_level (v : Word) : (s.handBack v).level = s.level := rfl
@[simp] theorem State.handBack_seenSoc (v : Word) : (s.handBack v).seenSoc = s.seenSoc := rfl
@[simp] theorem State.handBack_seenPeriph (v : Word) : (s.handBack v).seenPeriph = s.seenPeriph := rfl
@[simp] theorem State.handBack_notes (v : Word) : (s.handBack v).notes = s.notes := rfl
@[simp] theorem State.handBack_diags (v : Word) : (s.handBack v).diags = s.diags := rfl
@[simp] theorem State.handBack_refused (v : Word) : (s.handBack v).refused = s.refused := rfl
@[simp] theorem State.handBack_params (v : Word) : (s.handBack v).params = s.params := rfl
@[simp] theorem State.handBack_realize (v : Word) : (s.handBack v).realize = s.realize := rfl
@[simp] theorem State.handBack_draws (v : Word) : (s.handBack v).draws = s.draws := rfl
@[simp] theorem State.handBack_pending (v : Word) : (s.handBack v).pending = s.pending := rfl
@[simp] theorem State.handBack_returned (v : Word) : (s.handBack v).returned = s.returned ++ [v] := rfl
@[simp] theorem State.handBack_seen (v : Word) (d : Consumer) : (s.handBack v).seen d = s.seen d := rfl

@[simp] theorem State.log_phase (k : DiagKind) (off size : Nat) (v : Word) : (s.log k off size v).phase = s.phase := rfl
@[simp] theorem State.log_cr (k : DiagKind) (off size : Nat) (v : Word) : (s.log k off size v).cr = s.cr := rfl
@[simp] theorem State.log_sr (k : DiagKind) (off size : Nat) (v : Word) : (s.log k off size v).sr = s.sr := rfl
@[simp] theorem State.log_level (k : DiagKind) (off size : Nat) (v : Word) : (s.log k off size v).level = s.level := rfl
@[simp] theorem State.log_seenSoc (k : DiagKind) (off size : Nat) (v : Word) : (s.log k off size v).seenSoc = s.seenSoc := rfl
@[simp] theorem State.log_seenPeriph (k : DiagKind) (off size : Nat) (v : Word) : (s.log k off size v).seenPeriph = s.seenPeriph := rfl
@[simp] theorem State.log_notes (k : DiagKind) (off size : Nat) (v : Word) : (s.log k off size v).notes = s.notes := rfl
@[simp] theorem State.log_diags (k : DiagKind) (off size : Nat) (v : Word) : (s.log k off size v).diags = s.diags ++ [⟨k, off, size, v⟩] := rfl
@[simp] theorem State.log_refused (k : DiagKind) (off size : Nat) (v : Word) : (s.log k off size v).refused = s.refused := rfl
@[simp] theorem State.log_params (k : DiagKind) (off size : Nat) (v : Word) : (s.log k off size v).params = s.params := rfl
@[simp] theorem State.log_realize (k : DiagKind) (off size : Nat) (v : Word) : (s.log k off size v).realize = s.realize := rfl
@[simp] theorem State.log_draws (k : DiagKind) (off size : Nat) (v : Word) : (s.log k off size v).draws = s.draws := rfl
@[simp] theorem State.log_pending (k : DiagKind) (off size : Nat) (v : Word) : (s.log k off size v).pending = s.pending := rfl
@[simp] theorem State.log_returned (k : DiagKind) (off size : Nat) (v : Word) : (s.log k off size v).returned = s.returned := rfl
@[simp] theorem State.log_seen (k : DiagKind) (off size : Nat) (v : Word) (d : Consumer) : (s.log k off size v).seen d = s.seen d := rfl

@[simp] theorem State.badRead_phase (k : DiagKind) (off size : Nat) : (s.badRead k off size).phase = s.phase := rfl
@[simp] theorem State.badRead_cr (k : DiagKind) (off size : Nat) : (s.badRead k off size).cr = s.cr := rfl
@[simp] theorem State.badRead_sr (k : DiagKind) (off size : Nat) : (s.badRead k off size).sr = s.sr := rfl
@[simp] theorem State.badRead_level (k : DiagKind) (off size : Nat) : (s.badRead k off size).level = s.level := rfl
@[simp] theorem State.badRead_seenSoc (k : DiagKind) (off size : Nat) : (s.badRead k off size).seenSoc = s.seenSoc := rfl
@[simp] theorem State.badRead_seenPeriph (k : DiagKind) (off size : Nat) : (s.badRead k off size).seenPeriph = s.seenPeriph := rfl
@[simp] theorem State.badRead_notes (k : DiagKind) (off size : Nat) : (s.badRead k off size).notes = s.notes := rfl
@[simp] theorem State.badRead_diags (k : DiagKind) (off size : Nat) : (s.badRead k off size).diags = s.diags ++ [⟨k, off, size, 0⟩] := rfl
@[simp] theorem State.badRead_refused (k : DiagKind) (off size : Nat) : (s.badRead k off size).refused = s.refused := rfl
@[simp] theorem State.badRead_params (k : DiagKind) (off size : Nat) : (s.badRead k off size).params = s.params := rfl
@[simp] theorem State.badRead_realize (k : DiagKind) (off size : Nat) : (s.badRead k off size).realize = s.realize := rfl
@[simp] theorem State.badRead_draws (k : DiagKind) (off size : Nat) : (s.badRead k off size).draws = s.draws := rfl
@[simp] theorem State.badRead_pending (k : DiagKind) (off size : Nat) : (s.badRead k off size).pending = s.pending := rfl
@[simp] theorem State.badRead_returned (k : DiagKind) (off size : Nat) : (s.badRead k off size).returned = s.returned ++ [0] := rfl
@[simp] theorem State.badRead_seen (k : DiagKind) (off size : Nat) (d : Consumer) : (s.badRead k off size).seen d = s.seen d := rfl

@[simp] theorem State.advanceDraw_phase : (s.advanceDraw).phase = s.phase := rfl
@[simp] theorem State.advanceDraw_cr : (s.advanceDraw).cr = s.cr := rfl
@[simp] theorem State.advanceDraw_sr : (s.advanceDraw).sr = s.sr := rfl
@[simp] theorem State.advanceDraw_level : (s.advanceDraw).level = s.level := rfl
@[simp] theorem State.advanceDraw_seenSoc : (s.advanceDraw).seenSoc = s.seenSoc := rfl
@[simp] theorem State.advanceDraw_seenPeriph : (s.advanceDraw).seenPeriph = s.seenPeriph := rfl
@[simp] theorem State.advanceDraw_notes : (s.advanceDraw).notes = s.notes := rfl
@[simp] theorem State.advanceDraw_diags : (s.advanceDraw).diags = s.diags := rfl
@[simp] theorem State.advanceDraw_refused : (s.advanceDraw).refused = s.refused := rfl
@[simp] theorem State.advanceDraw_params : (s.advanceDraw).params = s.params := rfl
@[simp] theorem State.advanceDraw_realize : (s.advanceDraw).realize = s.realize := rfl
@[simp] theorem State.advanceDraw_draws : (s.advanceDraw).draws = s.draws + 1 := rfl
@[simp] theorem State.advanceDraw_pending : (s.advanceDraw).pending = s.pending := rfl
@[simp] theorem State.advanceDraw_returned : (s.advanceDraw).returned = s.returned := rfl
@[simp] theorem State.advanceDraw_seen (d : Consumer) : (s.advanceDraw).seen d = s.seen d := rfl

@[simp] theorem State.setCr_phase (v : Word) : (s.setCr v).phase = s.phase := rfl
@[simp] theorem State.setCr_cr (v : Word) : (s.setCr v).cr = v := rfl
@[simp] theorem State.setCr_sr (v : Word) : (s.setCr v).sr = s.sr := rfl
@[simp] theorem State.setCr_level (v : Word) : (s.setCr v).level = s.level := rfl
@[simp] theorem State.setCr_seenSoc (v : Word) : (s.setCr v).seenSoc = s.seenSoc := rfl
@[simp] theorem State.setCr_seenPeriph (v : Word) : (s.setCr v).seenPeriph = s.seenPeriph := rfl
@[simp] theorem State.setCr_notes (v : Word) : (s.setCr v).notes = s.notes := rfl
@[simp] theorem State.setCr_diags (v : Word) : (s.setCr v).diags = s.diags := rfl
@[simp] theorem State.setCr_refused (v : Word) : (s.setCr v).refused = s.refused := rfl
@[simp] theorem State.setCr_params (v : Word) : (s.setCr v).params = s.params := rfl
@[simp] theorem State.setCr_realize (v : Word) : (s.setCr v).realize = s.realize := rfl
@[simp] theorem State.setCr_draws (v : Word) : (s.setCr v).draws = s.draws := rfl
@[simp] theorem State.setCr_pending (v : Word) : (s.setCr v).pending = s.pending := rfl
@[simp] theorem State.setCr_returned (v : Word) : (s.setCr v).returned = s.returned := rfl
@[simp] theorem State.setCr_seen (v : Word) (d : Consumer) : (s.setCr v).seen d = s.seen d := rfl

@[simp] theorem State.setSr_phase (v : Word) : (s.setSr v).phase = s.phase := rfl
@[simp] theorem State.setSr_cr (v : Word) : (s.setSr v).cr = s.cr := rfl
@[simp] theorem State.setSr_sr (v : Word) : (s.setSr v).sr = v := rfl
@[simp] theorem State.setSr_level (v : Word) : (s.setSr v).level = s.level := rfl
@[simp] theorem State.setSr_seenSoc (v : Word) : (s.setSr v).seenSoc = s.seenSoc := rfl
@[simp] theorem State.setSr_seenPeriph (v : Word) : (s.setSr v).seenPeriph = s.seenPeriph := rfl
@[simp] theorem State.setSr_notes (v : Word) : (s.setSr v).notes = s.notes := rfl
@[simp] theorem State.setSr_diags (v : Word) : (s.setSr v).diags = s.diags := rfl
@[simp] theorem State.setSr_refused (v : Word) : (s.setSr v).refused = s.refused := rfl
@[simp] theorem State.setSr_params (v : Word) : (s.setSr v).params = s.params := rfl
@[simp] theorem State.setSr_realize (v : Word) : (s.setSr v).realize = s.realize := rfl
@[simp] theorem State.setSr_draws (v : Word) : (s.setSr v).draws = s.draws := rfl
@[simp] theorem State.setSr_pending (v : Word) : (s.setSr v).pending = s.pending := rfl
@[simp] theorem State.setSr_returned (v : Word) : (s.setSr v).returned = s.returned := rfl
@[simp] theorem State.setSr_seen (v : Word) (d : Consumer) : (s.setSr v).seen d = s.seen d := rfl

@[simp] theorem State.clearBank_phase : (s.clearBank).phase = s.phase := rfl
@[simp] theorem State.clearBank_cr : (s.clearBank).cr = 0 := rfl
@[simp] theorem State.clearBank_sr : (s.clearBank).sr = 0 := rfl
@[simp] theorem State.clearBank_level : (s.clearBank).level = s.level := rfl
@[simp] theorem State.clearBank_seenSoc : (s.clearBank).seenSoc = s.seenSoc := rfl
@[simp] theorem State.clearBank_seenPeriph : (s.clearBank).seenPeriph = s.seenPeriph := rfl
@[simp] theorem State.clearBank_notes : (s.clearBank).notes = s.notes := rfl
@[simp] theorem State.clearBank_diags : (s.clearBank).diags = s.diags := rfl
@[simp] theorem State.clearBank_refused : (s.clearBank).refused = s.refused := rfl
@[simp] theorem State.clearBank_params : (s.clearBank).params = s.params := rfl
@[simp] theorem State.clearBank_realize : (s.clearBank).realize = s.realize := rfl
@[simp] theorem State.clearBank_draws : (s.clearBank).draws = s.draws := rfl
@[simp] theorem State.clearBank_pending : (s.clearBank).pending = s.pending := rfl
@[simp] theorem State.clearBank_returned : (s.clearBank).returned = s.returned := rfl
@[simp] theorem State.clearBank_seen (d : Consumer) : (s.clearBank).seen d = s.seen d := rfl

@[simp] theorem State.setLevel_phase (i : Line) (l : Option Bool) : (s.setLevel i l).phase = s.phase := rfl
@[simp] theorem State.setLevel_cr (i : Line) (l : Option Bool) : (s.setLevel i l).cr = s.cr := rfl
@[simp] theorem State.setLevel_sr (i : Line) (l : Option Bool) : (s.setLevel i l).sr = s.sr := rfl
@[simp] theorem State.setLevel_level (i : Line) (l : Option Bool) : (s.setLevel i l).level = s.level.set i l := rfl
@[simp] theorem State.setLevel_seenSoc (i : Line) (l : Option Bool) : (s.setLevel i l).seenSoc = s.seenSoc := rfl
@[simp] theorem State.setLevel_seenPeriph (i : Line) (l : Option Bool) : (s.setLevel i l).seenPeriph = s.seenPeriph := rfl
@[simp] theorem State.setLevel_notes (i : Line) (l : Option Bool) : (s.setLevel i l).notes = s.notes := rfl
@[simp] theorem State.setLevel_diags (i : Line) (l : Option Bool) : (s.setLevel i l).diags = s.diags := rfl
@[simp] theorem State.setLevel_refused (i : Line) (l : Option Bool) : (s.setLevel i l).refused = s.refused := rfl
@[simp] theorem State.setLevel_params (i : Line) (l : Option Bool) : (s.setLevel i l).params = s.params := rfl
@[simp] theorem State.setLevel_realize (i : Line) (l : Option Bool) : (s.setLevel i l).realize = s.realize := rfl
@[simp] theorem State.setLevel_draws (i : Line) (l : Option Bool) : (s.setLevel i l).draws = s.draws := rfl
@[simp] theorem State.setLevel_pending (i : Line) (l : Option Bool) : (s.setLevel i l).pending = s.pending := rfl
@[simp] theorem State.setLevel_returned (i : Line) (l : Option Bool) : (s.setLevel i l).returned = s.returned := rfl
@[simp] theorem State.setLevel_seen (i : Line) (l : Option Bool) (d : Consumer) : (s.setLevel i l).seen d = s.seen d := rfl

@[simp] theorem State.setPhase_phase (p : Phase) : (s.setPhase p).phase = p := rfl
@[simp] theorem State.setPhase_cr (p : Phase) : (s.setPhase p).cr = s.cr := rfl
@[simp] theorem State.setPhase_sr (p : Phase) : (s.setPhase p).sr = s.sr := rfl
@[simp] theorem State.setPhase_level (p : Phase) : (s.setPhase p).level = s.level := rfl
@[simp] theorem State.setPhase_seenSoc (p : Phase) : (s.setPhase p).seenSoc = s.seenSoc := rfl
@[simp] theorem State.setPhase_seenPeriph (p : Phase) : (s.setPhase p).seenPeriph = s.seenPeriph := rfl
@[simp] theorem State.setPhase_notes (p : Phase) : (s.setPhase p).notes = s.notes := rfl
@[simp] theorem State.setPhase_diags (p : Phase) : (s.setPhase p).diags = s.diags := rfl
@[simp] theorem State.setPhase_refused (p : Phase) : (s.setPhase p).refused = s.refused := rfl
@[simp] theorem State.setPhase_params (p : Phase) : (s.setPhase p).params = s.params := rfl
@[simp] theorem State.setPhase_realize (p : Phase) : (s.setPhase p).realize = s.realize := rfl
@[simp] theorem State.setPhase_draws (p : Phase) : (s.setPhase p).draws = s.draws := rfl
@[simp] theorem State.setPhase_pending (p : Phase) : (s.setPhase p).pending = s.pending := rfl
@[simp] theorem State.setPhase_returned (p : Phase) : (s.setPhase p).returned = s.returned := rfl
@[simp] theorem State.setPhase_seen (p : Phase) (d : Consumer) : (s.setPhase p).seen d = s.seen d := rfl

@[simp] theorem State.markRefused_phase : (s.markRefused).phase = s.phase := rfl
@[simp] theorem State.markRefused_cr : (s.markRefused).cr = s.cr := rfl
@[simp] theorem State.markRefused_sr : (s.markRefused).sr = s.sr := rfl
@[simp] theorem State.markRefused_level : (s.markRefused).level = s.level := rfl
@[simp] theorem State.markRefused_seenSoc : (s.markRefused).seenSoc = s.seenSoc := rfl
@[simp] theorem State.markRefused_seenPeriph : (s.markRefused).seenPeriph = s.seenPeriph := rfl
@[simp] theorem State.markRefused_notes : (s.markRefused).notes = s.notes := rfl
@[simp] theorem State.markRefused_diags : (s.markRefused).diags = s.diags := rfl
@[simp] theorem State.markRefused_refused : (s.markRefused).refused = true := rfl
@[simp] theorem State.markRefused_params : (s.markRefused).params = s.params := rfl
@[simp] theorem State.markRefused_realize : (s.markRefused).realize = s.realize := rfl
@[simp] theorem State.markRefused_draws : (s.markRefused).draws = s.draws := rfl
@[simp] theorem State.markRefused_pending : (s.markRefused).pending = s.pending := rfl
@[simp] theorem State.markRefused_returned : (s.markRefused).returned = s.returned := rfl
@[simp] theorem State.markRefused_seen (d : Consumer) : (s.markRefused).seen d = s.seen d := rfl

@[simp] theorem State.note_phase (c : Consumer) (b : Bool) : (s.note c b).phase = s.phase := rfl
@[simp] theorem State.note_cr (c : Consumer) (b : Bool) : (s.note c b).cr = s.cr := rfl
@[simp] theorem State.note_sr (c : Consumer) (b : Bool) : (s.note c b).sr = s.sr := rfl
@[simp] theorem State.note_level (c : Consumer) (b : Bool) : (s.note c b).level = s.level := rfl
@[simp] theorem State.note_seenSoc (c : Consumer) (b : Bool) : (s.note c b).seenSoc = s.seenSoc := rfl
@[simp] theorem State.note_seenPeriph (c : Consumer) (b : Bool) : (s.note c b).seenPeriph = s.seenPeriph := rfl
@[simp] theorem State.note_notes (c : Consumer) (b : Bool) : (s.note c b).notes = s.notes ++ [(c, b)] := rfl
@[simp] theorem State.note_diags (c : Consumer) (b : Bool) : (s.note c b).diags = s.diags := rfl
@[simp] theorem State.note_refused (c : Consumer) (b : Bool) : (s.note c b).refused = s.refused := rfl
@[simp] theorem State.note_params (c : Consumer) (b : Bool) : (s.note c b).params = s.params := rfl
@[simp] theorem State.note_realize (c : Consumer) (b : Bool) : (s.note c b).realize = s.realize := rfl
@[simp] theorem State.note_draws (c : Consumer) (b : Bool) : (s.note c b).draws = s.draws := rfl
@[simp] theorem State.note_pending (c : Consumer) (b : Bool) : (s.note c b).pending = s.pending := rfl
@[simp] theorem State.note_returned (c : Consumer) (b : Bool) : (s.note c b).returned = s.returned := rfl
@[simp] theorem State.note_seen (c : Consumer) (b : Bool) (d : Consumer) : (s.note c b).seen d = s.seen d := rfl

@[simp] theorem State.deliver_phase (t : Transaction) : (s.deliver t).phase = s.phase := rfl
@[simp] theorem State.deliver_cr (t : Transaction) : (s.deliver t).cr = s.cr := rfl
@[simp] theorem State.deliver_sr (t : Transaction) : (s.deliver t).sr = s.sr := rfl
@[simp] theorem State.deliver_level (t : Transaction) : (s.deliver t).level = s.level := rfl
@[simp] theorem State.deliver_seenSoc (t : Transaction) : (s.deliver t).seenSoc = s.seenSoc := rfl
@[simp] theorem State.deliver_seenPeriph (t : Transaction) : (s.deliver t).seenPeriph = s.seenPeriph := rfl
@[simp] theorem State.deliver_notes (t : Transaction) : (s.deliver t).notes = s.notes := rfl
@[simp] theorem State.deliver_diags (t : Transaction) : (s.deliver t).diags = s.diags := rfl
@[simp] theorem State.deliver_refused (t : Transaction) : (s.deliver t).refused = s.refused := rfl
@[simp] theorem State.deliver_params (t : Transaction) : (s.deliver t).params = s.params := rfl
@[simp] theorem State.deliver_realize (t : Transaction) : (s.deliver t).realize = s.realize := rfl
@[simp] theorem State.deliver_draws (t : Transaction) : (s.deliver t).draws = s.draws := rfl
@[simp] theorem State.deliver_pending (t : Transaction) : (s.deliver t).pending = t :: s.pending := rfl
@[simp] theorem State.deliver_returned (t : Transaction) : (s.deliver t).returned = s.returned := rfl
@[simp] theorem State.deliver_seen (t : Transaction) (d : Consumer) : (s.deliver t).seen d = s.seen d := rfl

/-! `setSeen` and `notify` write one consumer record; `notify` also appends to the history. -/

@[simp] theorem State.setSeen_phase (c : Consumer) (b : Bool) : (s.setSeen c b).phase = s.phase := by
  unfold State.setSeen; repeat' split
  all_goals rfl
@[simp] theorem State.setSeen_cr (c : Consumer) (b : Bool) : (s.setSeen c b).cr = s.cr := by
  unfold State.setSeen; repeat' split
  all_goals rfl
@[simp] theorem State.setSeen_sr (c : Consumer) (b : Bool) : (s.setSeen c b).sr = s.sr := by
  unfold State.setSeen; repeat' split
  all_goals rfl
@[simp] theorem State.setSeen_level (c : Consumer) (b : Bool) : (s.setSeen c b).level = s.level := by
  unfold State.setSeen; repeat' split
  all_goals rfl
@[simp] theorem State.setSeen_notes (c : Consumer) (b : Bool) : (s.setSeen c b).notes = s.notes := by
  unfold State.setSeen; repeat' split
  all_goals rfl
@[simp] theorem State.setSeen_diags (c : Consumer) (b : Bool) : (s.setSeen c b).diags = s.diags := by
  unfold State.setSeen; repeat' split
  all_goals rfl
@[simp] theorem State.setSeen_refused (c : Consumer) (b : Bool) : (s.setSeen c b).refused = s.refused := by
  unfold State.setSeen; repeat' split
  all_goals rfl
@[simp] theorem State.setSeen_params (c : Consumer) (b : Bool) : (s.setSeen c b).params = s.params := by
  unfold State.setSeen; repeat' split
  all_goals rfl
@[simp] theorem State.setSeen_realize (c : Consumer) (b : Bool) : (s.setSeen c b).realize = s.realize := by
  unfold State.setSeen; repeat' split
  all_goals rfl
@[simp] theorem State.setSeen_draws (c : Consumer) (b : Bool) : (s.setSeen c b).draws = s.draws := by
  unfold State.setSeen; repeat' split
  all_goals rfl
@[simp] theorem State.setSeen_pending (c : Consumer) (b : Bool) : (s.setSeen c b).pending = s.pending := by
  unfold State.setSeen; repeat' split
  all_goals rfl
@[simp] theorem State.setSeen_returned (c : Consumer) (b : Bool) : (s.setSeen c b).returned = s.returned := by
  unfold State.setSeen; repeat' split
  all_goals rfl

@[simp] theorem State.notify_phase (c : Consumer) (b : Bool) : (s.notify c b).phase = s.phase := by simp [State.notify]
@[simp] theorem State.notify_cr (c : Consumer) (b : Bool) : (s.notify c b).cr = s.cr := by simp [State.notify]
@[simp] theorem State.notify_sr (c : Consumer) (b : Bool) : (s.notify c b).sr = s.sr := by simp [State.notify]
@[simp] theorem State.notify_level (c : Consumer) (b : Bool) : (s.notify c b).level = s.level := by simp [State.notify]
@[simp] theorem State.notify_notes (c : Consumer) (b : Bool) : (s.notify c b).notes = s.notes ++ [(c, b)] := by simp [State.notify]
@[simp] theorem State.notify_diags (c : Consumer) (b : Bool) : (s.notify c b).diags = s.diags := by simp [State.notify]
@[simp] theorem State.notify_refused (c : Consumer) (b : Bool) : (s.notify c b).refused = s.refused := by simp [State.notify]
@[simp] theorem State.notify_params (c : Consumer) (b : Bool) : (s.notify c b).params = s.params := by simp [State.notify]
@[simp] theorem State.notify_realize (c : Consumer) (b : Bool) : (s.notify c b).realize = s.realize := by simp [State.notify]
@[simp] theorem State.notify_draws (c : Consumer) (b : Bool) : (s.notify c b).draws = s.draws := by simp [State.notify]
@[simp] theorem State.notify_pending (c : Consumer) (b : Bool) : (s.notify c b).pending = s.pending := by simp [State.notify]
@[simp] theorem State.notify_returned (c : Consumer) (b : Bool) : (s.notify c b).returned = s.returned := by simp [State.notify]

end Sys2Proof.Machine
end

