-- ==== Sys2Proof/Laws/Ops.lean ====
section
/-! SUPPORT. What each shared operation can do, said once. -/

namespace Sys2Proof

/-- A pin the lookup finds is the pin-map entry of the line it answers (R171). -/
theorem Params.lineOf_sound {p : Params} {pin : Pin} {i : Line} (h : p.lineOf pin = some i) : p.pinMap[i] = pin := by
  simpa using List.find?_some h

/-- The lookup finds every pin of the map (R171). -/
theorem Params.lineOf_pinMap (p : Params) (i : Line) : ∃ j, p.lineOf p.pinMap[i] = some j := by
  cases h : p.lineOf p.pinMap[i] with
  | some j => exact ⟨j, rfl⟩
  | none => simpa using List.find?_eq_none.mp h i (List.mem_finRange i)

/-- Legal parameters have an injective pin map (R14). -/
theorem Params.legal_injective {p : Params} (h : p.legal = true) {i j : Line} (e : p.pinMap[i] = p.pinMap[j]) : i = j := by
  simp only [Params.legal, Bool.and_eq_true, decide_eq_true_eq] at h
  have := (List.nodup_iff_injective_get.mp h.2)
  have hi : i.val < p.pinMap.toList.length := by simp
  have hj : j.val < p.pinMap.toList.length := by simp
  have := @this ⟨i, hi⟩ ⟨j, hj⟩ (by simpa using e)
  exact Fin.ext (by simpa using this)

/-- Legal parameters have room for the three registers (R10). -/
theorem Params.legal_regionSize {p : Params} (h : p.legal = true) : 0xC ≤ p.regionSize := by
  simp only [Params.legal, Bool.and_eq_true, decide_eq_true_eq] at h
  exact h.1.1

end Sys2Proof

namespace Sys2Proof.Machine

/-- The arrows of the wiring graph, line by line (R164, R169). -/
theorem mem_wiring {p : Params} {a b : Endpoint} :
    (a, b) ∈ wiring p ↔ ∃ i : Line,
      a = .socOut p.pinMap[i] ∧ b = .splitterIn i ∨
      ∃ k : Output, a = .splitterIn i ∧ b = .splitterOut i k ∨ a = .splitterOut i k ∧ b = .consumer (consumerOf p i k) := by
  have split_outputs (q : Output → Prop) : (∃ k, q k) ↔ q 0 ∨ q 1 := Fin.exists_fin_two
  simp only [wiring, wire, fanOut, List.mem_flatMap, List.mem_append, List.mem_cons, List.not_mem_nil, or_false,
    List.mem_map, List.mem_finRange, true_and, Prod.mk.injEq, split_outputs]
  refine exists_congr fun i => ?_
  tauto

/-- A composed board with its peripheral has 13 splitters (R163). -/
theorem State.splitterCount_running {s : State} (h : s.phase = .running true) : s.splitterCount = 13 := if_pos h

/-- A composed board with its peripheral has the wiring of its parameters (R163, R169). -/
theorem State.wiring_running {s : State} (h : s.phase = .running true) : s.wiring = Machine.wiring s.params := if_pos h

/-- Each output of a splitter mirrors its input (R29, R145). -/
@[simp] theorem State.output_eq (s : State) (i : Line) (k : Output) : s.output i k = s.level[i] := rfl

/-- A refusal is no next state. -/
@[simp] theorem refuse_ne_next (r : State → Refusal) (s t : State) : refuse r s ≠ .next t := by
  simp [refuse]

/-- A register bank rule answers a next state exactly in `Running(true)`, and it is the rule's (R100). -/
theorem withBank_next {s s' t : State} : withBank s s' = .next t ↔ s.phase = .running true ∧ s' = t := by
  unfold withBank
  split <;> rename_i h <;> simp [h]

/-- A register bank rule is refused in `Uncomposed` and `Running(false)` (R100, R196). -/
theorem withBank_refused {s : State} (s' : State) (h : s.phase = .uncomposed ∨ s.phase = .running false) :
    withBank s s' = .refused (.noRegisterBank s.markRefused) := by
  rcases h with h | h <;> (unfold withBank; split <;> rename_i hp <;> simp_all [refuse])

/-- No register bank rule has a step in `Aborted` (R165, R196). -/
theorem withBank_aborted {s : State} (s' : State) (h : s.phase = .aborted) : withBank s s' = .fault .aborted := by
  simp [withBank, h]

/-- A splitter rule is refused in `Uncomposed` and `Running(false)` (R140, R196). -/
theorem withSplitters_refused {s : State} (s' : State) (h : s.phase = .uncomposed ∨ s.phase = .running false) :
    withSplitters s s' = .refused (.noSplitter s.markRefused) := by
  rcases h with h | h <;> (unfold withSplitters; split <;> rename_i hp <;> simp_all [refuse])

/-- No splitter rule has a step in `Aborted` (R165, R196). -/
theorem withSplitters_aborted {s : State} (s' : State) (h : s.phase = .aborted) :
    withSplitters s s' = .fault .aborted := by
  simp [withSplitters, h]

/-- A splitter rule answers a next state exactly in `Running(true)`, and it is the rule's (R140). -/
theorem withSplitters_next {s s' t : State} : withSplitters s s' = .next t ↔ s.phase = .running true ∧ s' = t := by
  unfold withSplitters
  split <;> rename_i h <;> simp [h]

/-- `setSeen` leaves every other consumer's record (R141). -/
theorem State.seen_setSeen_other (s : State) {c d : Consumer} (b : Bool) (h : d ≠ c) :
    (s.setSeen c b).seen d = s.seen d := by
  cases c with
  | periphIn i =>
    cases d with
    | socIn q => rfl
    | periphIn j =>
      have hij : (i : Nat) ≠ j := fun e => h (by rw [Fin.ext e])
      simp [State.setSeen, State.seen, Vector.getElem_set_ne _ _ hij]
  | socIn p =>
    simp only [State.setSeen]
    split
    · rename_i i hi
      cases d with
      | periphIn j => rfl
      | socIn q =>
        simp only [State.seen]
        cases hj : s.params.lineOf q with
        | none => rfl
        | some j =>
          have hij : (i : Nat) ≠ j := fun e => h (by
            rw [← Params.lineOf_sound hi, ← Params.lineOf_sound hj, Fin.ext e])
          simp [Vector.getElem_set_ne _ _ hij]
    · rfl

/-- `setSeen` records the level of a consumer a splitter output feeds (R141, R164). -/
theorem State.seen_setSeen_consumerOf (s : State) (i : Line) (k : Output) (b : Bool) :
    (s.setSeen (consumerOf s.params i k) b).seen (consumerOf s.params i k) = some b := by
  unfold consumerOf
  split
  · obtain ⟨j, hj⟩ := s.params.lineOf_pinMap i
    simp only [State.setSeen, State.seen, hj]
    exact Vector.getElem_set_self _
  · simp [State.setSeen, State.seen]

/-- `notify` leaves every other consumer's record (R141). -/
theorem State.seen_notify_other (s : State) {c d : Consumer} (b : Bool) (h : d ≠ c) :
    (s.notify c b).seen d = s.seen d := by
  simp [State.notify, State.seen_setSeen_other s b h]

/-- `notify` records the level of a consumer a splitter output feeds (R141). -/
theorem State.seen_notify_consumerOf (s : State) (i : Line) (k : Output) (b : Bool) :
    (s.notify (consumerOf s.params i k) b).seen (consumerOf s.params i k) = some b := by
  simp [State.notify, State.seen_setSeen_consumerOf]

/-- `setInput`, its two notifications written out (R140, R144). -/
theorem State.setInput_eq (s : State) (i : Line) (b : Bool) :
    s.setInput i b =
      ((s.setLevel i (some b)).notify (.socIn s.params.pinMap[i]) b).notify (.periphIn i) b := rfl

/-- `setInput` writes the level, the two consumers' records and the history, and nothing else (R140, R146). -/
theorem State.setInput_frame (s : State) (i : Line) (b : Bool) :
    (s.setInput i b).phase = s.phase ∧ (s.setInput i b).cr = s.cr ∧ (s.setInput i b).sr = s.sr ∧
    (s.setInput i b).diags = s.diags ∧ (s.setInput i b).refused = s.refused ∧ (s.setInput i b).params = s.params ∧
    (s.setInput i b).realize = s.realize ∧ (s.setInput i b).draws = s.draws ∧
    (s.setInput i b).pending = s.pending ∧ (s.setInput i b).returned = s.returned := by
  simp [State.setInput_eq]

/-- `setInput` sets its own level and appends its two notifications (R140). -/
theorem State.setInput_effect (s : State) (i : Line) (b : Bool) :
    (s.setInput i b).level = s.level.set i (some b) ∧
    (s.setInput i b).notes = s.notes ++ [(.socIn s.params.pinMap[i], b), (.periphIn i, b)] := by
  simp [State.setInput_eq]

/-- What each consumer has seen after `setInput` (R140, R141). -/
theorem State.seen_setInput (s : State) (i : Line) (b : Bool) (c : Consumer) :
    (s.setInput i b).seen c =
      if c = .socIn s.params.pinMap[i] ∨ c = .periphIn i then some b else s.seen c := by
  rw [State.setInput_eq]
  by_cases h1 : c = .periphIn i
  · subst h1
    simpa [consumerOf] using
      State.seen_notify_consumerOf ((s.setLevel i (some b)).notify (.socIn s.params.pinMap[i]) b) i 1 b
  · rw [State.seen_notify_other _ b h1]
    by_cases h2 : c = .socIn s.params.pinMap[i]
    · subst h2
      simpa [consumerOf] using State.seen_notify_consumerOf (s.setLevel i (some b)) i 0 b
    · rw [State.seen_notify_other _ b h2, if_neg (by simp only [h1, h2, or_self, not_false_eq_true])]
      rfl

/-- The composer's loop: every line's splitter realizes and is set to undriven, or the board is aborted with the lines before the
first failure set (R160, R165). It touches the phase and the levels only. -/
theorem buildSplitters_cases (lines : List Line) (s : State) :
    ∃ lv, buildSplitters lines s = { s with phase := (buildSplitters lines s).phase, level := lv } ∧
      ((∀ i ∈ lines, s.realize.splitOk[i] = true) ∧ (buildSplitters lines s).phase = .running true ∧
          (∀ i : Line, lv[i] = if i ∈ lines then none else s.level[i]) ∨
        (∃ i ∈ lines, s.realize.splitOk[i] = false) ∧ (buildSplitters lines s).phase = .aborted) := by
  induction lines generalizing s with
  | nil => exact ⟨s.level, rfl, .inl ⟨by simp, rfl, by simp⟩⟩
  | cons i rest ih =>
    unfold buildSplitters
    by_cases hi : s.realize.splitOk[i] = true
    · obtain ⟨lv, heq, h⟩ := ih (s.setLevel i none)
      rw [if_pos hi]
      refine ⟨lv, heq, h.imp ?_ ?_⟩
      · rintro ⟨hall, hp, hlv⟩
        refine ⟨List.forall_mem_cons.mpr ⟨hi, hall⟩, hp, fun j => ?_⟩
        rw [hlv j]
        by_cases hj : j ∈ rest
        · simp [hj]
        · by_cases hji : j = i
          · subst hji
            simp [hj]
          · have hne : (i : Nat) ≠ j := fun e => hji (Fin.ext e.symm)
            simp [hj, hji, Vector.getElem_set_ne _ _ hne]
      · rintro ⟨⟨j, hj, hf⟩, hp⟩
        exact ⟨⟨j, by simp [hj], hf⟩, hp⟩
    · rw [if_neg hi]
      exact ⟨s.level, rfl, .inr ⟨⟨i, by simp, by simpa using hi⟩, rfl⟩⟩

/-- What the body of `COMPOSE` leaves alone, whatever it does (R160). -/
theorem composeBoard_frame (s : State) :
    (composeBoard s).seenSoc = s.seenSoc ∧ (composeBoard s).seenPeriph = s.seenPeriph ∧
    (composeBoard s).notes = s.notes ∧ (composeBoard s).diags = s.diags ∧ (composeBoard s).refused = s.refused ∧
    (composeBoard s).params = s.params ∧ (composeBoard s).realize = s.realize ∧ (composeBoard s).draws = s.draws ∧
    (composeBoard s).pending = s.pending ∧ (composeBoard s).returned = s.returned := by
  unfold composeBoard
  repeat' split
  · simp
  · simp
  · simp
  · obtain ⟨lv, h, -⟩ := buildSplitters_cases (List.finRange 13) s.clearBank
    rw [h]
    simp

/-- Where the body of `COMPOSE` ends: a composed board with its peripheral has both registers at 0 and every level undriven
(R160, R200); any other end has no bank. -/
theorem composeBoard_phase (s : State) :
    ((composeBoard s).phase = .running true ∧ (composeBoard s).cr = 0 ∧ (composeBoard s).sr = 0 ∧
        ∀ i : Line, (composeBoard s).level[i] = none) ∨
      (composeBoard s).phase = .running false ∨ (composeBoard s).phase = .aborted := by
  unfold composeBoard
  repeat' split
  · simp
  · simp
  · simp
  · obtain ⟨lv, h, ⟨-, hp, hlv⟩ | ⟨-, hp⟩⟩ := buildSplitters_cases (List.finRange 13) s.clearBank
    · refine .inl ⟨hp, ?_, ?_, ?_⟩ <;> rw [h] <;> simp_all
    · exact .inr (.inr hp)

/-- `RESET` and the bus kinds leave what a consumer has seen: `seen` reads these three fields only. -/
theorem State.seen_congr {s t : State} (hp : t.params = s.params) (h1 : t.seenSoc = s.seenSoc)
    (h2 : t.seenPeriph = s.seenPeriph) (c : Consumer) : t.seen c = s.seen c := by
  cases c <;> simp [State.seen, hp, h1, h2]

end Sys2Proof.Machine
end

