-- ==== Sys2Proof/Laws/PerInstr.lean ====
section
/-! SUPPORT. Statements made per instruction: `Issuer`, that an encoded kind is a transaction of the agent that issues the kind
(R70, R192), and `BusWord`, that the bus value an encoder writes is already 32 bits wide (R72, R75). -/

namespace Sys2Proof.Laws

/-- The encoded transaction has a format of the agent that issues the kind (R70, R192). -/
def Issuer.Statement (i : Instr) : Prop := (encode i).agent = i.agent

theorem Issuer.rdBadSize (off size : Nat) : Issuer.Statement (.rdBadSize off size) := rfl
theorem Issuer.rdOob (off : Nat) : Issuer.Statement (.rdOob off) := rfl
theorem Issuer.rdCr : Issuer.Statement .rdCr := rfl
theorem Issuer.rdSr : Issuer.Statement .rdSr := rfl
theorem Issuer.rdDr : Issuer.Statement .rdDr := rfl
theorem Issuer.rdInvalid (off : Nat) : Issuer.Statement (.rdInvalid off) := rfl
theorem Issuer.wrBadSize (off size : Nat) (value : Word) : Issuer.Statement (.wrBadSize off size value) := rfl
theorem Issuer.wrOob (off : Nat) (value : Word) : Issuer.Statement (.wrOob off value) := rfl
theorem Issuer.wrCr (value : Word) : Issuer.Statement (.wrCr value) := rfl
theorem Issuer.wrSr (value : Word) : Issuer.Statement (.wrSr value) := rfl
theorem Issuer.wrDr (value : Word) : Issuer.Statement (.wrDr value) := rfl
theorem Issuer.wrInvalid (off : Nat) (value : Word) : Issuer.Statement (.wrInvalid off value) := rfl
theorem Issuer.gpioSet (line : Line) (b : Bool) : Issuer.Statement (.gpioSet line b) := rfl
theorem Issuer.compose : Issuer.Statement .compose := rfl
theorem Issuer.reset : Issuer.Statement .reset := rfl

/-- A word on the bus reads back as itself (R72, R75). -/
theorem busWord_toNat (value : Word) : busWord value.toNat = value := by simp [busWord]

/-- Cutting an encoded kind's bus value to bits 31:0 changes nothing (R72, R75). -/
def BusWord.Statement (i : Instr) : Prop := (encode i).narrow = encode i

theorem BusWord.rdBadSize (off size : Nat) : BusWord.Statement (.rdBadSize off size) := rfl
theorem BusWord.rdOob (off : Nat) : BusWord.Statement (.rdOob off) := rfl
theorem BusWord.rdCr : BusWord.Statement .rdCr := rfl
theorem BusWord.rdSr : BusWord.Statement .rdSr := rfl
theorem BusWord.rdDr : BusWord.Statement .rdDr := rfl
theorem BusWord.rdInvalid (off : Nat) : BusWord.Statement (.rdInvalid off) := rfl
theorem BusWord.wrBadSize (off size : Nat) (value : Word) : BusWord.Statement (.wrBadSize off size value) := by
  simp [BusWord.Statement, encode, Transaction.narrow, busWord_toNat]
theorem BusWord.wrOob (off : Nat) (value : Word) : BusWord.Statement (.wrOob off value) := by
  simp [BusWord.Statement, encode, Transaction.narrow, busWord_toNat]
theorem BusWord.wrCr (value : Word) : BusWord.Statement (.wrCr value) := by
  simp [BusWord.Statement, encode, Transaction.narrow, busWord_toNat]
theorem BusWord.wrSr (value : Word) : BusWord.Statement (.wrSr value) := by
  simp [BusWord.Statement, encode, Transaction.narrow, busWord_toNat]
theorem BusWord.wrDr (value : Word) : BusWord.Statement (.wrDr value) := by
  simp [BusWord.Statement, encode, Transaction.narrow, busWord_toNat]
theorem BusWord.wrInvalid (off : Nat) (value : Word) : BusWord.Statement (.wrInvalid off value) := by
  simp [BusWord.Statement, encode, Transaction.narrow, busWord_toNat]
theorem BusWord.gpioSet (line : Line) (b : Bool) : BusWord.Statement (.gpioSet line b) := rfl
theorem BusWord.compose : BusWord.Statement .compose := rfl
theorem BusWord.reset : BusWord.Statement .reset := rfl

end Sys2Proof.Laws
end

