-- ==== Sys2Proof/Laws/Step.lean ====
section
/-! SUPPORT. What a step and a bus transaction can do, said once. -/

namespace Sys2Proof.Machine

/-- A step that answers a next state either found nothing pending, or ran the decoded next transaction (R21). -/
theorem step_next {s t : State} (h : step s = .next t) :
    s.phase ≠ .aborted ∧
      (s.pending = [] ∧ t = s ∨
        ∃ tr rest i, s.pending = tr :: rest ∧ decode s.params.regionSize tr = .instr i ∧
          exec i { s with pending := rest } = .next t) := by
  unfold step State.upcoming at h
  by_cases hp : s.phase = .aborted
  · simp [hp] at h
  · refine ⟨hp, ?_⟩
    rw [if_neg hp] at h
    cases hq : s.pending with
    | nil => simp [hq] at h; exact .inl ⟨rfl, h.symm⟩
    | cons tr rest =>
      simp only [hq] at h
      cases hd : decode s.params.regionSize tr with
      | instr i =>
        simp only [hd] at h
        exact .inr ⟨tr, rest, i, rfl, hd, h⟩
      | refused e =>
        simp only [hd] at h
        cases e <;> simp [refuseDecode] at h

/-- The GPIO driver's one kind (R192). -/
theorem agent_gpioDriver {i : Instr} (h : i.agent = .gpioDriver) : ∃ line b, i = .gpioSet line b := by
  cases i <;> simp_all [Instr.agent]

/-- The host's two kinds (R192). -/
theorem agent_host {i : Instr} (h : i.agent = .host) : i = .compose ∨ i = .reset := by
  cases i <;> simp_all [Instr.agent]

/-- A bus transaction that answers a next state ran in `Running(true)` and left the board, the splitters and the consumers
alone; of the registers, only a CR write and an SR write touch any (R26, R100). -/
theorem exec_bus_next {i : Instr} {s t : State} (hi : i.agent = .busMaster) (h : exec i s = .next t) :
    s.phase = .running true ∧ t.phase = s.phase ∧ t.level = s.level ∧ t.seenSoc = s.seenSoc ∧
      t.seenPeriph = s.seenPeriph ∧ t.notes = s.notes ∧ t.refused = s.refused ∧ t.params = s.params ∧
      t.realize = s.realize ∧ t.pending = s.pending ∧
      ((∃ v, i = .wrCr v ∧ t.cr = v ∧ t.sr = mergeReady s.sr v) ∨
        (∃ v, i = .wrSr v ∧ t.cr = s.cr ∧ t.sr = clearSticky s.sr v) ∨
        t.cr = s.cr ∧ t.sr = s.sr) := by
  cases i with
  | gpioSet line b => cases hi
  | compose => cases hi
  | reset => cases hi
  | wrSr v =>
    obtain ⟨hp, rfl⟩ := withBank_next.mp h
    split <;> simp [hp]
  | rdDr =>
    obtain ⟨hp, rfl⟩ := withBank_next.mp h
    split <;> simp [hp]
  | _ =>
    obtain ⟨hp, rfl⟩ := withBank_next.mp h
    simp [hp]

/-- `RESET` leaves the state, or clears the two registers of a composed board (R201, R202). -/
theorem execReset_next {s t : State} (h : execReset s = .next t) :
    t = s ∧ (s.phase = .running false ∨ s.phase = .running true) ∨ t = s.clearBank ∧ s.phase = .running true := by
  unfold execReset at h
  split at h <;> rename_i hp
  · simp at h
  · simp at h
  · simp_all
  · split at h <;> simp_all

/-- `COMPOSE` answers a next state only from `Uncomposed` under legal parameters, and it is the composer's (R160, R166). -/
theorem execCompose_next {s t : State} (h : execCompose s = .next t) :
    s.phase = .uncomposed ∧ s.params.legal = true ∧ t = composeBoard s := by
  unfold execCompose at h
  split at h <;> rename_i hp
  · split at h <;> simp_all
  · simp at h
  · simp at h

end Sys2Proof.Machine
end

