-- ==== Sys2Proof/Tests/Slice0.lean ====
section
/-! SUPPORT. The model's own tests. Expected results are those of spec/95_test_vectors.md, whose vector each test names, or of the
rule it names; the witnesses show states and operands that meet the hypotheses of the statements in
Sys2Proof/Certificates/Slice0/Obligations.lean. -/

namespace Sys2Proof.Tests

open Sys2Proof.Machine Sys2Proof.Safety

/-- A legal parameter set: 16 bytes of region, 13 distinct pins. -/
def params : Params where
  regionSize := 0x10
  rngBase := 0x1000
  pinMap := Vector.ofFn fun i => ⟨⟨i.val / 8⟩, ⟨i.val % 8⟩⟩
  peripheralPresent := true
  systemResetClearsBank := true

/-- Every collaborator realizes. -/
def realize : Realize where
  socOk := true
  periphOk := true
  splitOk := Vector.replicate 13 true

/-- The start of a run under these. -/
def start : State := { State.reset with params := params, realize := realize }

/-- The vectors' `S0`, with the two registers given. -/
def board (cr sr : Word) : State := { start with phase := .running true, cr := cr, sr := sr }

/-- A field of the state one transaction leads to, through decode and step. -/
def after {α : Type} (s : State) (tr : Transaction) (f : State → α) : Option α :=
  match step (s.deliver tr) with
  | .next t => some (f t)
  | .fault _ => none
  | .refused _ => none

/-- The reason a transaction is refused for. -/
def refusal (s : State) (tr : Transaction) : Option Refusal :=
  match step (s.deliver tr) with
  | .next _ => none
  | .fault _ => none
  | .refused r => some r

/-- The registers, the log and the words read. -/
def bank (s : State) : Word × Word × List Diag × List Word := (s.cr, s.sr, s.diags, s.returned)

/-- The same state under a build whose system reset keeps the bank. -/
def keeping (s : State) : State := { s with params := { s.params with systemResetClearsBank := false } }

/-! ## Well-formedness: an ill-formed term for each check (R79) -/

theorem test_illformed_size :
    (Instr.rdBadSize 0x0 4).wellFormed 0x10 = false ∧ (Instr.wrBadSize 0x0 4 0).wellFormed 0x10 = false := by decide
theorem test_illformed_oob :
    (Instr.rdOob 0xC).wellFormed 0x10 = false ∧ (Instr.wrOob 0xF 0).wellFormed 0x10 = false := by decide
theorem test_illformed_invalid :
    (Instr.rdInvalid 0x8).wellFormed 0x10 = false ∧ (Instr.rdInvalid 0x10).wellFormed 0x10 = false ∧
      (Instr.wrInvalid 0x0 0).wellFormed 0x10 = false ∧ (Instr.wrInvalid 0x4 0).wellFormed 0x10 = false := by decide
theorem test_illformed_register :
    Instr.rdCr.wellFormed 0 = false ∧ Instr.rdSr.wellFormed 4 = false ∧ Instr.rdDr.wellFormed 8 = false ∧
      (Instr.wrCr 0).wellFormed 0 = false ∧ (Instr.wrSr 0).wellFormed 4 = false ∧ (Instr.wrDr 0).wellFormed 8 = false := by
  decide

/-! ## Decode: every kind, from the tuple R79 gives it -/

theorem test_decode_reads :
    decode 0x10 (.busR 0x8 2) = .instr (.rdBadSize 0x8 2) ∧ decode 0x10 (.busR 0x10 4) = .instr (.rdOob 0x10) ∧
      decode 0x10 (.busR 0x0 4) = .instr .rdCr ∧ decode 0x10 (.busR 0x4 4) = .instr .rdSr ∧
      decode 0x10 (.busR 0x8 4) = .instr .rdDr ∧ decode 0x10 (.busR 0x9 4) = .instr (.rdInvalid 0x9) := by decide
theorem test_decode_writes :
    decode 0x10 (.busW 0x0 8 4) = .instr (.wrBadSize 0x0 8 4) ∧ decode 0x10 (.busW 0x110 4 4) = .instr (.wrOob 0x110 4) ∧
      decode 0x10 (.busW 0x0 4 0xFFFFFFFF) = .instr (.wrCr 0xFFFFFFFF) ∧ decode 0x10 (.busW 0x4 4 0x60) = .instr (.wrSr 0x60) ∧
      decode 0x10 (.busW 0x8 4 0x12345678) = .instr (.wrDr 0x12345678) ∧
      decode 0x10 (.busW 0x2 4 4) = .instr (.wrInvalid 0x2 4) := by decide
theorem test_decode_others :
    decode 0x10 (.gpio 3 true) = .instr (.gpioSet 3 true) ∧ decode 0x10 (.gpio 13 true) = .refused (.badLine 13) ∧
      decode 0x10 (.host .compose) = .instr .compose ∧ decode 0x10 (.host .reset) = .instr .reset ∧
      decode 0x10 (.fetch 0x0) = .refused (.instrFetch 0x0) := by decide
/-- R75: a wider bus value gives its bits 31:0. -/
theorem test_decode_wide_value : decode 0x10 (.busW 0x0 4 0x500000004) = .instr (.wrCr 0x4) := by decide
/-- VR12: offset 0xC is past the smallest region. -/
theorem test_decode_smallest_region : decode 0xC (.busR 0xC 4) = .instr (.rdOob 0xC) := by decide
/-- The packed word of log 6, in the build's open region. -/
theorem test_packed_word :
    decodeTableWord 48 0x000000000401 = some .rdCr ∧ decodeTableWord 80 0x00000004000000000402 = some (.wrCr 4) ∧
      decodeTableWord 24 0x010C03 = some (.gpioSet 12 true) ∧ decodeTableWord 16 0x0104 = some .reset ∧
      decodeTableWord 0 0 = none := by decide
theorem test_fetch_word_runs_next :
    (match step ((board 0x12345678 0).withFetchWord 48 0x401) with
      | .next t => t.returned
      | .fault _ => []
      | .refused _ => []) = [0x12345678#32] := by decide

/-! ## Reads -/

/-- VR17. -/
theorem test_read_badsize_takes_no_draw :
    after (board 4 1) (.busR 0x8 2) (fun t => (bank t, t.draws)) = some ((4, 1, [⟨.badSize, 0x8, 2, 0⟩], [0]), 0) := by decide
/-- VR18. -/
theorem test_read_badsize_before_bound :
    after (board 0 0) (.busR 0x14 2) (·.diags) = some [⟨.badSize, 0x14, 2, 0⟩] := by decide
/-- VR13. -/
theorem test_read_at_region_size :
    after (board 4 1) (.busR 0x10 4) bank = some (4, 1, [⟨.outOfBounds, 0x10, 4, 0⟩], [0]) := by decide
/-- VR1. -/
theorem test_read_control : after (board 0x12345678 0) (.busR 0x0 4) bank = some (0x12345678, 0, [], [0x12345678]) := by decide
/-- P3 step 1. -/
theorem test_read_status : after (board 4 0x61) (.busR 0x4 4) bank = some (4, 0x61, [], [0x61]) := by decide
/-- VR9: SR bit 0 governs, not CR bit 2. -/
theorem test_read_data_tests_status :
    after (board 4 0) (.busR 0x8 4) bank = some (4, 0, [⟨.noData, 0x8, 4, 0⟩], [0]) := by decide
/-- VR5: a draw is taken and one word handed back; its value is free. -/
theorem test_read_data_ready :
    after (board 4 1) (.busR 0x8 4) (fun t => (t.cr, t.sr, t.diags, t.returned.length, t.draws)) = some (4, 1, [], 1, 1) := by
  decide
/-- VR12. -/
theorem test_read_invalid : after (board 0 0) (.busR 0xC 4) bank = some (0, 0, [⟨.badOffset, 0xC, 4, 0⟩], [0]) := by decide

/-! ## Writes -/

/-- VW26. -/
theorem test_write_badsize : after (board 4 0x61) (.busW 0x4 1 0) bank = some (4, 0x61, [⟨.badSize, 0x4, 1, 0⟩], []) := by decide
/-- VW24. -/
theorem test_write_oob : after (board 0 0) (.busW 0x10 4 4) bank = some (0, 0, [⟨.outOfBounds, 0x10, 4, 4⟩], []) := by decide
/-- VW6. -/
theorem test_write_control_keeps_sticky : after (board 0 0x60) (.busW 0x0 4 4) bank = some (4, 0x61, [], []) := by decide
/-- VW4. -/
theorem test_write_control_disables :
    after (board 0xFFFFFFFF 1) (.busW 0x0 4 0xFFFFFFFB) bank = some (0xFFFFFFFB, 0, [], []) := by decide
/-- VW13. -/
theorem test_write_status_warns_and_clears :
    after (board 4 0x61) (.busW 0x4 4 1) bank = some (4, 1, [⟨.statusReadOnlyBits, 0x4, 4, 1⟩], []) := by decide
/-- VW11. -/
theorem test_write_status_clears_one : after (board 4 0x61) (.busW 0x4 4 0x20) bank = some (4, 0x21, [], []) := by decide
/-- VW19. -/
theorem test_write_data :
    after (board 4 1) (.busW 0x8 4 0x12345678) bank = some (4, 1, [⟨.writeReadOnly, 0x8, 4, 0x12345678⟩], []) := by decide
/-- VW21. -/
theorem test_write_invalid : after (board 0 0) (.busW 0x1 4 4) bank = some (0, 0, [⟨.badOffset, 0x1, 4, 4⟩], []) := by decide

/-! ## Splitters, composition, reset -/

/-- VG1: the pin of line 3, the peripheral's input 3, and no other. -/
theorem test_gpio_reaches_both :
    after (board 4 1) (.gpio 3 true)
        (fun t => (t.level[3], t.level[4], t.seen (.socIn params.pinMap[3]), t.seen (.periphIn 3), t.seen (.periphIn 4))) =
      some (some true, none, some true, some true, none) := by decide
/-- VG6 and VG7. -/
theorem test_gpio_refused :
    refusal (board 0 0) (.gpio 13 true) = some (.badLine 13 { board 0 0 with refused := true }) ∧
      refusal { start with phase := .running false } (.gpio 0 true) =
        some (.noSplitter { start with phase := .running false, refused := true }) := by decide
/-- VC1 and VC5. -/
theorem test_compose_present_and_absent :
    after start (.host .compose) (·.phase) = some (.running true) ∧
      after { start with params := { params with peripheralPresent := false } } (.host .compose) (·.phase) =
        some (.running false) := by decide
/-- E5, E6: 13 splitters, wired, with the peripheral; none without. -/
theorem test_composed_wiring :
    (board 0 0).splitterCount = 13 ∧ ((board 0 0).wiring.filter fun e => e.2.layer == 3).length = 26 ∧
      { start with phase := .running false }.splitterCount = 0 ∧ { start with phase := .running false }.wiring = [] := by
  decide
/-- R164, R169: from the SoC's output pin of line 12 through the splitter back to the SoC's input of that pin. -/
theorem test_loopback_path :
    (Endpoint.socOut params.pinMap[12], Endpoint.splitterIn 12) ∈ wiring params ∧
      (Endpoint.splitterIn 12, Endpoint.splitterOut 12 0) ∈ wiring params ∧
      (Endpoint.splitterOut 12 0, Endpoint.consumer (.socIn params.pinMap[12])) ∈ wiring params := by decide
/-- VC2 and VC7. -/
theorem test_compose_fails :
    after { start with realize := { realize with splitOk := realize.splitOk.set 7 false } } (.host .compose) (·.phase) =
        some .aborted ∧
      after { start with params := { params with pinMap := params.pinMap.set 2 params.pinMap[9] } } (.host .compose) (·.phase) =
        none := by decide
/-- VS1 and VS2. -/
theorem test_reset_by_parameter :
    after ((board 4 1).setLevel 3 (some true)) (.host .reset) (fun t => (t.cr, t.sr, t.level[3])) =
        some (0, 0, some true) ∧
      after (keeping (board 4 1)) (.host .reset) bank = some (4, 1, [], []) := by decide
/-- VS3 and VC6. -/
theorem test_host_refusals :
    refusal start (.host .reset) = some (.noBoard { start with refused := true }) ∧
      refusal (board 0 0) (.host .compose) = some (.composeTwice { board 0 0 with refused := true }) := by decide

/-! ## Script syntax (R83, R84) -/

theorem test_script_lines :
    parseLine "rd.2 CR ; two bytes".toList = some [.deliver (.busR 0x0 2)] ∧
      parseLine "wr SR, 0x60".toList = some [.deliver (.busW 0x4 4 0x60)] ∧
      parseLine "gpio 12, 1".toList = some [.deliver (.gpio 12 true)] ∧ parseLine "wr CR 4".toList = none := by decide
theorem test_script_pseudo :
    parseLine "enable".toList = some [.deliver (.busW 0x0 4 4)] ∧
      parseLine "poll SR, 0x1, 0x1".toList = some [.poll 0x4 1 1] ∧
      parseLine "rdrand".toList = some [.poll 0x4 1 1, .deliver (.busR 0x8 4)] := by decide
/-- R212: `S0` with nothing pending is a successful end; an aborted board is none. -/
theorem test_successful_end :
    successfulEnd (board 0 0) = true ∧ successfulEnd { start with phase := .aborted } = false ∧
      successfulEnd { board 0 0 with refused := true } = false := by decide

/-! ## Witnesses: the hypotheses of the statements can be met -/

theorem witness_legal : params.legal = true := by decide
theorem witness_running_legal : (board 4 0x61).phase = .running true ∧ 0xC ≤ (board 4 0x61).params.regionSize := by decide
theorem witness_running_badsize : (board 0 0).phase = .running true ∧ (0 : Nat) ≠ 4 := by decide
theorem witness_running_oob : (board 0 0).phase = .running true ∧ (board 0 0).params.regionSize ≤ 0x10 := by decide
theorem witness_running_invalid :
    (board 0 0).phase = .running true ∧ 0xF < (board 0 0).params.regionSize ∧ 0xF ≠ 0x0 ∧ 0xF ≠ 0x4 ∧ 0xF ≠ 0x8 := by decide
theorem witness_running_read : (board 4 1).phase = .running true ∧ Instr.rdDr.isRead = true := by decide
theorem witness_running_bus : (board 4 1).phase = .running true ∧ (Instr.wrCr 4).agent = .busMaster ∧
    (match exec (.wrCr 4) (board 4 1) with
      | .next t => some t.notes
      | .fault _ => none
      | .refused _ => none) = some [] := by decide
theorem witness_pending_runs :
    ((board 0 0).deliver (.busW 0x0 4 4)).pending = [.busW 0x0 4 4] ∧ decode 0x10 (.busW 0x0 4 4) = .instr (.wrCr 4) ∧
      after (board 0 0x40) (.busW 0x0 4 4) (·.sr) = some 0x41 := by decide
theorem witness_pending_read :
    ((board 0 0).deliver (.busR 0x8 4)).phase = .running true ∧
      ((board 0 0).deliver (.busR 0x8 4)).pending = [.busR 0x8 4] := by decide
theorem witness_pending_write :
    ((board 0 0).deliver (.busW 0x4 4 7)).phase = .running true ∧
      ((board 0 0).deliver (.busW 0x4 4 7)).pending = [.busW 0x4 4 7] := by decide
theorem witness_pending_rejected :
    (start.deliver (.gpio 13 true)).phase ≠ .aborted ∧ (start.deliver (.gpio 13 true)).pending = [.gpio 13 true] ∧
      (start.deliver (.fetch 0)).pending = [.fetch 0] := by decide
theorem witness_idle : (board 0 0).pending = [] ∧ (board 0 0).phase ≠ .aborted := by decide
theorem witness_encode :
    (Instr.rdInvalid 0xF).wellFormed 0x10 = true ∧ (Instr.wrOob 0x10 0xFFFFFFFF).wellFormed 0x10 = true ∧
      (Instr.rdBadSize 0x10 8).wellFormed 0x10 = true ∧ (Instr.rdDr).wellFormed 0xC = true := by decide
theorem witness_decoded : 0xC ≤ 0xC ∧ decode 0xC (.busW 0xC 4 0x100000001) = .instr (.wrOob 0xC 1) := by decide
theorem witness_below_base : params.rngBase - 1 < params.rngBase := by decide
theorem witness_composed : after start (.host .compose) (fun t => (t.phase, t.cr, t.sr)) = some (.running true, 0, 0) := by decide
theorem witness_compose_ok :
    start.phase = .uncomposed ∧ start.params.legal = true ∧ start.params.peripheralPresent = true ∧
      start.realize.socOk = true ∧ start.realize.periphOk = true ∧ ∀ i : Line, start.realize.splitOk[i] = true := by decide
theorem witness_soc_fails :
    let s := { start with realize := { realize with socOk := false } }
    s.phase = .uncomposed ∧ s.params.legal = true ∧ s.realize.socOk = false := by decide
theorem witness_absent :
    let s := { start with params := { params with peripheralPresent := false } }
    s.phase = .uncomposed ∧ s.params.legal = true ∧ s.realize.socOk = true ∧ s.params.peripheralPresent = false := by decide
theorem witness_periph_fails :
    let s := { start with realize := { realize with periphOk := false } }
    s.phase = .uncomposed ∧ s.params.legal = true ∧ s.realize.socOk = true ∧ s.params.peripheralPresent = true ∧
      s.realize.periphOk = false := by decide
theorem witness_splitter_fails :
    let s := { start with realize := { realize with splitOk := realize.splitOk.set 12 false } }
    s.phase = .uncomposed ∧ s.params.legal = true ∧ s.realize.socOk = true ∧ s.params.peripheralPresent = true ∧
      s.realize.periphOk = true ∧ s.realize.splitOk[(12 : Line)] = false ∧
      ∀ j : Line, j < 12 → s.realize.splitOk[j] = true := by decide
theorem witness_aborted : { start with phase := .aborted }.phase = .aborted := by decide
theorem witness_no_bank : start.phase = .uncomposed ∧ { start with phase := .running false }.phase = .running false := by decide
theorem witness_illegal :
    start.phase = .uncomposed ∧ { params with regionSize := 8 }.regionSize < 0xC ∧
      { params with regionSize := 0xE }.regionSize % 4 ≠ 0 ∧
      { params with pinMap := params.pinMap.set 2 params.pinMap[9] }.pinMap[2] = params.pinMap[9] := by decide
/-- A state with a step to take, for the statements about every step. -/
def busy : State := (board 4 1).deliver (.gpio 12 true)

theorem witness_invariants :
    ReadyMirrorsEnable busy ∧ OnlyReadyBit busy ∧ RunsLegal busy ∧ QuietBeforeCompose busy ∧ ConsumersMirror busy ∧
      SeenIsLastNote busy ∧ after (board 4 1) (.gpio 12 true) (·.level[12]) = some (some true) := by
  refine ⟨?_, ?_, fun _ _ => witness_legal, ?_, ?_, ?_, by decide⟩
  · intro _; decide
  · intro _; decide
  · intro h; cases h
  · intro _; decide
  intro c
  cases c with
  | periphIn i => revert i; decide
  | socIn pin =>
    simp only [State.seen]
    split
    · simp [busy, board, start, State.reset, State.deliver, lastNote]
    · rfl
/-- Each clause of `DiagnosticOfARead` at a boundary of its range. -/
theorem witness_read_clauses :
    after (board 4 1) (.busR 0x10 3) (·.diags) = some [⟨.badSize, 0x10, 3, 0⟩] ∧
      after (board 4 1) (.busR 0x10 4) (·.diags) = some [⟨.outOfBounds, 0x10, 4, 0⟩] ∧
      after (board 4 1) (.busR 0x0 4) (·.diags) = some [] ∧ after (board 4 1) (.busR 0x4 4) (·.diags) = some [] ∧
      after (board 4 1) (.busR 0x8 4) (·.diags) = some [] ∧
      after (board 0 0) (.busR 0x8 4) (·.diags) = some [⟨.noData, 0x8, 4, 0⟩] ∧
      after (board 4 1) (.busR 0xF 4) (·.diags) = some [⟨.badOffset, 0xF, 4, 0⟩] := by decide
/-- Each clause of `DiagnosticOfAWrite` at a boundary of its range. -/
theorem witness_write_clauses :
    after (board 4 1) (.busW 0x10 5 7) (·.diags) = some [⟨.badSize, 0x10, 5, 7⟩] ∧
      after (board 4 1) (.busW 0x10 4 7) (·.diags) = some [⟨.outOfBounds, 0x10, 4, 7⟩] ∧
      after (board 4 1) (.busW 0x0 4 7) (·.diags) = some [] ∧ after (board 4 1) (.busW 0x4 4 8) (·.diags) = some [] ∧
      after (board 4 1) (.busW 0x4 4 4) (·.diags) = some [⟨.statusReadOnlyBits, 0x4, 4, 4⟩] ∧
      after (board 4 1) (.busW 0x8 4 0) (·.diags) = some [⟨.writeReadOnly, 0x8, 4, 0⟩] ∧
      after (board 4 1) (.busW 0xF 4 0) (·.diags) = some [⟨.badOffset, 0xF, 4, 0⟩] := by decide

end Sys2Proof.Tests
end

section
/-! The consumer records and the notification history (R32, R141): each notification and each kind keeps them in agreement. -/

namespace Sys2Proof.Safety

open Sys2Proof.Machine

/-- A further notification is the last one of its own consumer, and of no other. -/
@[simp] theorem lastNote_append_singleton (notes : List (Consumer × Bool)) (c d : Consumer) (b : Bool) :
    lastNote (notes ++ [(c, b)]) d = if c = d then some b else lastNote notes d := by
  by_cases h : c = d <;> simp [lastNote, h]

/-- `SeenIsLastNote` reads the records, the pin map and the history only. -/
theorem SeenIsLastNote.congr {s t : State} (hs : SeenIsLastNote s) (hparams : t.params = s.params)
    (hsoc : t.seenSoc = s.seenSoc) (hperiph : t.seenPeriph = s.seenPeriph) (hnotes : t.notes = s.notes) :
    SeenIsLastNote t := fun c => by
  rw [State.seen_congr hparams hsoc hperiph, hnotes, hs c]

/-- A notification of a splitter's consumer writes its record and the history alike (R141). -/
theorem SeenIsLastNote.notify {s : State} (hs : SeenIsLastNote s) (i : Line) (k : Output) (b : Bool) :
    SeenIsLastNote (s.notify (consumerOf s.params i k) b) := fun c => by
  rw [State.notify_notes, lastNote_append_singleton]
  by_cases h : consumerOf s.params i k = c
  · subst h
    rw [State.seen_notify_consumerOf, if_pos rfl]
  · rw [State.seen_notify_other s b (Ne.symm h), if_neg h, hs c]

/-- `setInput` notifies the two consumers of its splitter, one after the other (R140, R144). -/
theorem SeenIsLastNote.setInput {s : State} (hs : SeenIsLastNote s) (i : Line) (b : Bool) :
    SeenIsLastNote (s.setInput i b) := by
  have hlevel : SeenIsLastNote (s.setLevel i (some b)) := hs
  have hfirst := hlevel.notify i 0 b
  exact hfirst.notify i 1 b

/-- Every kind keeps the records in agreement with the history: only `GPIO_SET` writes either of them. -/
theorem SeenIsLastNote.exec {i : Instr} {s t : State} (hs : SeenIsLastNote s) (h : exec i s = .next t) :
    SeenIsLastNote t := by
  cases hagent : i.agent with
  | busMaster =>
    obtain ⟨-, -, -, hsoc, hperiph, hnotes, -, hparams, -⟩ := exec_bus_next hagent h
    exact hs.congr hparams hsoc hperiph hnotes
  | gpioDriver =>
    obtain ⟨line, b, rfl⟩ := agent_gpioDriver hagent
    obtain ⟨-, rfl⟩ := withSplitters_next.mp h
    exact hs.setInput line b
  | host =>
    obtain rfl | rfl := agent_host hagent
    · obtain ⟨-, -, rfl⟩ := execCompose_next h
      obtain ⟨hsoc, hperiph, hnotes, -, -, hparams, -⟩ := composeBoard_frame s
      exact hs.congr hparams hsoc hperiph hnotes
    · obtain ⟨rfl, -⟩ | ⟨rfl, -⟩ := execReset_next h
      · exact hs
      · exact hs.congr rfl rfl rfl rfl

/-- Settles O46: a step stays, or runs one kind, and taking a transaction off the sequence touches no record. -/
theorem stepKeepsSeenIsLastNote : Obligations.StepKeepsSeenIsLastNote := by
  unfold Obligations.StepKeepsSeenIsLastNote
  intro s t hs hstep
  obtain ⟨-, ⟨-, rfl⟩ | ⟨_, rest, i, -, -, hexec⟩⟩ := step_next hstep
  · exact hs
  · have htaken : SeenIsLastNote { s with pending := rest } := hs.congr rfl rfl rfl rfl
    exact htaken.exec hexec

end Sys2Proof.Safety
end

section
/-! The two rules of SR bit 0 put together: a CR write sets it and an SR read returns it, back to back (R60, R104, R112). -/

namespace Sys2Proof.Safety

open Sys2Proof.Machine

/-- A CR write completes in `Running(true)`, in the state R112 gives. -/
theorem exec_wrCr_running {s : State} (h : s.phase = .running true) (v : Word) :
    exec (.wrCr v) s = .next ((s.setCr v).setSr (mergeReady s.sr v)) :=
  withBank_next.mpr ⟨h, rfl⟩

/-- An SR read completes in `Running(true)` and only hands the register back (R104). -/
theorem exec_rdSr_running {s : State} (h : s.phase = .running true) : exec .rdSr s = .next (s.handBack s.sr) :=
  withBank_next.mpr ⟨h, rfl⟩

/-- Settles O27: the write leaves the phase, so the read is enabled in the very state the write left, and hands back the
merged status word. -/
theorem statusReadSeesControlWrite : Obligations.StatusReadSeesControlWrite := by
  unfold Obligations.StatusReadSeesControlWrite
  intro s v hphase
  have hwritten : ((s.setCr v).setSr (mergeReady s.sr v)).phase = .running true := by
    rw [State.setSr_phase, State.setCr_phase, hphase]
  have hready : (mergeReady s.sr v).getLsbD 0 = v.getLsbD 2 := by rw [getLsbD_mergeReady, if_pos rfl]
  exact ⟨_, _, _, exec_wrCr_running hphase v, exec_rdSr_running hwritten, rfl, hready⟩

end Sys2Proof.Safety
end

section
/-! The decode of `GPIO` (R78): the line as delivered is one of the 13, or is refused by its number. -/

namespace Sys2Proof.Encoding

/-- R78: a `GPIO` on one of the 13 lines is the `GPIO_SET` of that line and level. -/
@[simp] theorem decode_gpio_line (regionSize : Nat) (line : Line) (b : Bool) :
    decode regionSize (.gpio line.val b) = .instr (.gpioSet line b) :=
  dif_pos line.isLt

/-- R78, R166: a `GPIO` on any other line is refused, and the refusal names that line. -/
theorem decode_gpio_badLine (regionSize : Nat) {line : Nat} (b : Bool) (h : 13 ≤ line) :
    decode regionSize (.gpio line b) = .refused (.badLine line) :=
  dif_neg (Nat.not_lt.mpr h)

/-- Settles O6: the two sides of the line check, and the two host events, each of which is its own kind. -/
theorem decodeOfGpioAndHost : Obligations.DecodeOfGpioAndHost := by
  unfold Obligations.DecodeOfGpioAndHost
  intro regionSize
  exact ⟨decode_gpio_line regionSize, fun _ b => decode_gpio_badLine regionSize b, rfl, rfl⟩

end Sys2Proof.Encoding
end

section
/-! The decode of a bus access (R76, R77): the tests in their order, size, bound, register. -/

namespace Sys2Proof.RegisterBank

/-- R76: a read of the wrong size, whatever the offset and the region. -/
theorem decode_busR_badSize (regionSize off : Nat) {size : Nat} (h : size ≠ 4) :
    decode regionSize (.busR off size) = .instr (.rdBadSize off size) :=
  congrArg Decoded.instr (if_pos h)

/-- R76: a 4-byte read at or past the end of the region. -/
theorem decode_busR_oob {regionSize off : Nat} (h : regionSize ≤ off) :
    decode regionSize (.busR off 4) = .instr (.rdOob off) :=
  congrArg Decoded.instr (if_pos h)

/-- R76: a 4-byte read inside the region is selected by its offset. -/
theorem decode_busR_inside {regionSize off : Nat} (h : off < regionSize) :
    decode regionSize (.busR off 4) =
      .instr (if off = 0x0 then .rdCr else if off = 0x4 then .rdSr else if off = 0x8 then .rdDr else .rdInvalid off) :=
  congrArg Decoded.instr (if_neg (Nat.not_le.mpr h))

/-- R77: a 4-byte write inside the region is selected by its offset, and carries the word on the bus. -/
theorem decode_busW_inside {regionSize off : Nat} (v : Word) (h : off < regionSize) :
    decode regionSize (.busW off 4 v.toNat) =
      .instr (if off = 0x0 then .wrCr v else if off = 0x4 then .wrSr v else if off = 0x8 then .wrDr v
        else .wrInvalid off v) := by
  have hdecode : decodeWrite regionSize off 4 v = _ := if_neg (Nat.not_le.mpr h)
  rw [decode, Laws.busWord_toNat, hdecode]

end Sys2Proof.RegisterBank
end

section
/-! The kinds in `Running(true)`: every bus and GPIO kind completes there (R100, R140), and what COMPOSE leaves in the bank
when it ends there (R200). -/

namespace Sys2Proof.RegisterBank

open Sys2Proof.Machine

/-- A register bank rule completes in `Running(true)`, in the state the rule gives (R100). -/
theorem withBank_running {s : State} (h : s.phase = .running true) (t : State) : withBank s t = .next t :=
  withBank_next.mpr ⟨h, rfl⟩

/-- R103: a CR read hands the register back. -/
theorem exec_rdCr_running {s : State} (h : s.phase = .running true) : exec .rdCr s = .next (s.handBack s.cr) :=
  withBank_running h _

/-- R106: a DR read with data ready takes the next draw and hands its low word back. -/
theorem exec_rdDr_ready {s : State} (h : s.phase = .running true) (hready : dataReady s.sr = true) :
    exec .rdDr s = .next (s.advanceDraw.handBack s.nextDraw) :=
  withBank_next.mpr ⟨h, if_pos hready⟩

/-- R107: a DR read with no data is a bad read of the Data register. -/
theorem exec_rdDr_notReady {s : State} (h : s.phase = .running true) (hready : ¬ dataReady s.sr = true) :
    exec .rdDr s = .next (s.badRead .noData 0x8 4) :=
  withBank_next.mpr ⟨h, if_neg hready⟩

/-- Every bus and GPIO kind has a next state in `Running(true)` (R100, R140). -/
theorem exec_completes {i : Instr} {s : State} (h : s.phase = .running true) (hagent : i.agent ≠ .host) :
    ∃ t, exec i s = .next t := by
  cases i with
  | compose => exact absurd rfl hagent
  | reset => exact absurd rfl hagent
  | gpioSet line b => exact ⟨_, withSplitters_next.mpr ⟨h, rfl⟩⟩
  | _ => exact ⟨_, withBank_running h _⟩

/-- R200: a composition that ends with the bank present leaves both registers at 0. -/
theorem exec_compose_bank {s t : State} (h : exec .compose s = .next t) (hphase : t.phase = .running true) :
    t.cr = 0 ∧ t.sr = 0 := by
  obtain ⟨-, -, rfl⟩ := execCompose_next h
  obtain ⟨-, hcr, hsr, -⟩ | hend | hend := composeBoard_phase s
  · exact ⟨hcr, hsr⟩
  · simp [hphase] at hend
  · simp [hphase] at hend

end Sys2Proof.RegisterBank
end

section
/-! What a read can do (R109): hand a word back, log at most one diagnostic, take a number of draws, and nothing else. -/

namespace Sys2Proof.RegisterBank

open Sys2Proof.Machine

/-- `t` is `s` after a read that took `draws` draws: one more word returned, at most one more diagnostic (R109). -/
def ReadEffect (s t : State) (draws : Nat) : Prop :=
  ∃ (w : Word) (events : List Diag),
    t = { s with returned := s.returned ++ [w], diags := s.diags ++ events, draws := s.draws + draws } ∧
    events.length ≤ 1

/-- A read that violates the protocol logs once and draws nothing (R181, R182). -/
theorem readEffect_badRead (s : State) (kind : DiagKind) (off size : Nat) :
    ReadEffect s (s.badRead kind off size) 0 :=
  ⟨_, [_], rfl, le_rfl⟩

/-- Handing a word back logs and draws nothing (R18). -/
theorem readEffect_handBack (s : State) (w : Word) : ReadEffect s (s.handBack w) 0 :=
  ⟨w, [], by simp [State.handBack], Nat.zero_le _⟩

/-- Handing a word back after a draw logs nothing (R106). -/
theorem readEffect_draw (s : State) (w : Word) : ReadEffect s (s.advanceDraw.handBack w) 1 :=
  ⟨w, [], by simp [State.handBack, State.advanceDraw], Nat.zero_le _⟩

/-- R109, kind by kind: the serviced reads hand a word back, the others are bad reads, and only a ready DR read draws. -/
theorem exec_read_effect {i : Instr} {s : State} (h : s.phase = .running true) (hread : i.isRead = true) :
    ∃ t, exec i s = .next t ∧ ReadEffect s t (if i = .rdDr ∧ dataReady s.sr = true then 1 else 0) := by
  cases i with
  | rdBadSize off size => exact ⟨_, withBank_running h _, readEffect_badRead s _ _ _⟩
  | rdOob off => exact ⟨_, withBank_running h _, readEffect_badRead s _ _ _⟩
  | rdInvalid off => exact ⟨_, withBank_running h _, readEffect_badRead s _ _ _⟩
  | rdCr => exact ⟨_, exec_rdCr_running h, readEffect_handBack s _⟩
  | rdSr => exact ⟨_, Safety.exec_rdSr_running h, readEffect_handBack s _⟩
  | rdDr =>
    by_cases hready : dataReady s.sr = true
    · rw [if_pos ⟨rfl, hready⟩]
      exact ⟨_, exec_rdDr_ready h hready, readEffect_draw s _⟩
    · rw [if_neg fun hboth => hready hboth.2]
      exact ⟨_, exec_rdDr_notReady h hready, readEffect_badRead s _ _ _⟩
  | _ => cases hread

/-- Settles O16: the effect of every read kind, its draws counted. -/
theorem readsChangeNothingElse : Obligations.ReadsChangeNothingElse := by
  unfold Obligations.ReadsChangeNothingElse
  intro s i hphase hread
  obtain ⟨t, hexec, w, events, rfl, hlength⟩ := exec_read_effect hphase hread
  exact ⟨w, events, _, hexec, hlength, rfl⟩

end Sys2Proof.RegisterBank
end

section
/-! The one path to SR bit 0 (R113): every bus and GPIO kind but a CR write keeps CR and that bit. -/

namespace Sys2Proof.RegisterBank

open Sys2Proof.Machine Sys2Proof.Safety

/-- R113, R114: a CR write merges bit 2 of the word into SR bit 0. -/
theorem getLsbD_zero_mergeReady (sr v : Word) : (mergeReady sr v).getLsbD 0 = v.getLsbD 2 := by
  rw [getLsbD_mergeReady, if_pos rfl]

/-- R118: the sticky clear does not reach SR bit 0. -/
theorem getLsbD_zero_clearSticky (sr v : Word) : (clearSticky sr v).getLsbD 0 = sr.getLsbD 0 := by
  rw [getLsbD_clearSticky]
  simp

/-- A bus or GPIO kind other than a CR write keeps CR and SR bit 0: an SR write moves sticky bits only, and no other kind
touches a register (R113). -/
theorem exec_keeps_readyBit {i : Instr} {s t : State} (h : exec i s = .next t) (hagent : i.agent ≠ .host)
    (hother : ∀ v, i ≠ .wrCr v) : t.cr = s.cr ∧ t.sr.getLsbD 0 = s.sr.getLsbD 0 := by
  cases hissuer : i.agent with
  | host => exact absurd hissuer hagent
  | gpioDriver =>
    obtain ⟨line, b, rfl⟩ := agent_gpioDriver hissuer
    obtain ⟨-, rfl⟩ := withSplitters_next.mp h
    obtain ⟨-, hcr, hsr, -⟩ := s.setInput_frame line b
    exact ⟨hcr, by rw [hsr]⟩
  | busMaster =>
    obtain ⟨-, -, -, -, -, -, -, -, -, -, hwrCr | hwrSr | ⟨hcr, hsr⟩⟩ := exec_bus_next hissuer h
    · obtain ⟨v, hi, -⟩ := hwrCr
      exact absurd hi (hother v)
    · obtain ⟨v, -, hcr, hsr⟩ := hwrSr
      exact ⟨hcr, by rw [hsr, getLsbD_zero_clearSticky]⟩
    · exact ⟨hcr, by rw [hsr]⟩

/-- Settles O28: a CR write sets the bit to `v[2]`, and every other kind keeps it. -/
theorem onlyControlWritesMoveReadyBit : Obligations.OnlyControlWritesMoveReadyBit := by
  unfold Obligations.OnlyControlWritesMoveReadyBit
  intro s i hphase hagent
  obtain ⟨t, hexec⟩ := exec_completes hphase hagent
  cases i with
  | wrCr v => exact ⟨_, exec_wrCr_running hphase v, rfl, getLsbD_zero_mergeReady s.sr v⟩
  | _ => exact ⟨t, hexec, exec_keeps_readyBit hexec hagent nofun⟩

end Sys2Proof.RegisterBank
end

section
/-! The bus reads, one statement per kind: the decode that selects it, and the whole next state (R101 to R108). -/

namespace Sys2Proof.RegisterBank

open Sys2Proof.Machine Sys2Proof.Safety

/-- Settles O10: the size test comes first, and the bad read is enabled. -/
theorem readOfWrongSize : Obligations.ReadOfWrongSize := by
  unfold Obligations.ReadOfWrongSize
  intro s off size hphase hsize
  exact ⟨fun regionSize => decode_busR_badSize regionSize off hsize, withBank_running hphase _⟩

/-- Settles O11: the bound test is met at `REGION_SIZE` itself. -/
theorem readOutOfBounds : Obligations.ReadOutOfBounds := by
  unfold Obligations.ReadOutOfBounds
  intro s off hphase hoff
  exact ⟨decode_busR_oob hoff, withBank_running hphase _⟩

/-- Settles O12: a CR write leaves the phase, so the read is enabled in the state it left, and there CR is the word. -/
theorem readOfControl : Obligations.ReadOfControl := by
  unfold Obligations.ReadOfControl
  refine ⟨fun s hphase => ⟨fun hregion => ?_, exec_rdCr_running hphase, fun v => ?_⟩, fun s t hexec hphase => ?_⟩
  · exact decode_busR_inside (by omega)
  · exact ⟨_, exec_wrCr_running hphase v, exec_rdCr_running hphase⟩
  · obtain ⟨hcr, -⟩ := exec_compose_bank hexec hphase
    rw [← hcr]
    exact exec_rdCr_running hphase

/-- Settles O13: the read returns SR as it stands, after a CR write with the merged bit and after composition with 0. -/
theorem readOfStatus : Obligations.ReadOfStatus := by
  unfold Obligations.ReadOfStatus
  refine ⟨fun s hphase => ⟨fun hregion => ?_, exec_rdSr_running hphase, fun v => ?_⟩, fun s t hexec hphase => ?_⟩
  · exact decode_busR_inside (by omega)
  · exact ⟨_, exec_wrCr_running hphase v, getLsbD_zero_mergeReady s.sr v, exec_rdSr_running hphase⟩
  · obtain ⟨-, hsr⟩ := exec_compose_bank hexec hphase
    exact ⟨t.sr, by simp [hsr], exec_rdSr_running hphase⟩

/-- Settles O14: the two outcomes of the test of SR bit 0. -/
theorem readOfData : Obligations.ReadOfData := by
  unfold Obligations.ReadOfData
  refine fun s hphase => ⟨fun hregion => decode_busR_inside (by omega), ?_⟩
  split
  · next hready => exact exec_rdDr_ready hphase hready
  · next hready => exact exec_rdDr_notReady hphase hready

/-- Settles O15: inside the region, an offset that is none of the three is left to the last test. -/
theorem readOfInvalidOffset : Obligations.ReadOfInvalidOffset := by
  unfold Obligations.ReadOfInvalidOffset
  intro s off hphase hoff hcr hsr hdr
  refine ⟨?_, withBank_running hphase _⟩
  rw [decode_busR_inside hoff, if_neg hcr, if_neg hsr, if_neg hdr]

end Sys2Proof.RegisterBank
end

section
/-! The bus writes, one statement per kind: the decode that selects it, and the whole next state (R112 to R122). -/

namespace Sys2Proof.RegisterBank

open Sys2Proof.Machine Sys2Proof.Safety

/-- Settles O20: the write is enabled, and its merge of bit 2 into SR is the formula of R112. -/
theorem writeOfControl : Obligations.WriteOfControl := by
  unfold Obligations.WriteOfControl
  exact fun s v hphase => ⟨fun hregion => decode_busW_inside v (by omega), exec_wrCr_running hphase v⟩

/-- Settles O21: whether the write warns or not, SR takes the masked word (R119). -/
theorem writeOfStatus : Obligations.WriteOfStatus := by
  unfold Obligations.WriteOfStatus
  refine fun s v hphase => ⟨fun hregion => decode_busW_inside v (by omega), ?_⟩
  have hwarn : setsReadOnlyBits v = true ↔ v.extractLsb' 0 3 ≠ 0#3 := bne_iff_ne
  refine withBank_next.mpr ⟨hphase, ?_⟩
  by_cases hbits : v.extractLsb' 0 3 ≠ 0#3
  · rw [if_pos hbits, if_pos (hwarn.mpr hbits)]
    rfl
  · rw [if_neg hbits, if_neg (mt hwarn.mp hbits), List.append_nil]
    rfl

/-- Settles O22: neither the value nor SR bit 0 is read, so one event is the whole effect. -/
theorem writeOfData : Obligations.WriteOfData := by
  unfold Obligations.WriteOfData
  exact fun s v hphase => ⟨fun hregion => decode_busW_inside v (by omega), withBank_running hphase _⟩

/-- Settles O23: inside the region, an offset that is none of the three is left to the last test. -/
theorem writeOfInvalidOffset : Obligations.WriteOfInvalidOffset := by
  unfold Obligations.WriteOfInvalidOffset
  intro s off v hphase hoff hcr hsr hdr
  refine ⟨?_, withBank_running hphase _⟩
  rw [decode_busW_inside v hoff, if_neg hcr, if_neg hsr, if_neg hdr]

end Sys2Proof.RegisterBank
end

section
/-! `setInput` line by line (R140): what line `j`'s level and consumers are after the input of splitter `i` is set. Under legal
parameters no other line's loopback pin is touched (R14). -/

namespace Sys2Proof

/-- Under legal parameters the lookup of a line's own pin is that line (R14, R171). -/
theorem Params.lineOf_pinMap_of_legal {p : Params} (h : p.legal = true) (i : Line) : p.lineOf p.pinMap[i] = some i := by
  obtain ⟨j, hj⟩ := p.lineOf_pinMap i
  have hji : j = i := p.legal_injective h (p.lineOf_sound hj)
  rw [hj, hji]

end Sys2Proof

namespace Sys2Proof.Machine

/-- `setSeen` of a loopback pin the lookup finds writes the record of the line found (R141). -/
theorem State.setSeen_socIn_of_lineOf {s : State} {pin : Pin} {j : Line} (h : s.params.lineOf pin = some j) (b : Bool) :
    s.setSeen (.socIn pin) b = { s with seenSoc := s.seenSoc.set j (some b) } := by
  simp only [State.setSeen, h]

/-- `setInput` as one record update, `j` being the line the lookup answers for the loopback pin (R140, R141). -/
theorem State.setInput_of_lineOf {s : State} {i j : Line} (h : s.params.lineOf s.params.pinMap[i] = some j) (b : Bool) :
    s.setInput i b =
      { s with
        level := s.level.set i (some b)
        seenSoc := s.seenSoc.set j (some b)
        seenPeriph := s.seenPeriph.set i (some b)
        notes := s.notes ++ [(.socIn s.params.pinMap[i], b), (.periphIn i, b)] } := by
  have hfirst := State.setSeen_socIn_of_lineOf (s := s.setLevel i (some b)) h b
  rw [State.setInput_eq, State.notify, State.notify, hfirst]
  simp [State.setSeen, State.note, State.setLevel]

/-- The level of each line after `setInput` (R140). -/
theorem State.level_setInput (s : State) (i j : Line) (b : Bool) :
    (s.setInput i b).level[j] = if j = i then some b else s.level[j] := by
  obtain ⟨hlevel, -⟩ := s.setInput_effect i b
  rw [hlevel]
  by_cases h : j = i
  · subst h
    simp
  · have hne : (i : Nat) ≠ j := fun e => h (Fin.ext e.symm)
    simp [h, Vector.getElem_set_ne _ _ hne]

/-- What each peripheral input has seen after `setInput` (R141). -/
theorem State.seen_periphIn_setInput (s : State) (i j : Line) (b : Bool) :
    (s.setInput i b).seen (.periphIn j) = if j = i then some b else s.seen (.periphIn j) := by
  simp [State.seen_setInput]

/-- What each loopback pin has seen after `setInput`, no pin being that of two lines (R14, R141). -/
theorem State.seen_socIn_setInput {s : State} (h : s.params.legal = true) (i j : Line) (b : Bool) :
    (s.setInput i b).seen (.socIn s.params.pinMap[j]) =
      if j = i then some b else s.seen (.socIn s.params.pinMap[j]) := by
  have hpin : s.params.pinMap[j] = s.params.pinMap[i] ↔ j = i := ⟨s.params.legal_injective h, fun e => by rw [e]⟩
  rw [State.seen_setInput]
  simp only [Consumer.socIn.injEq, hpin, reduceCtorEq, or_false]

/-- A kind that is not GPIO leaves the parameters, the consumer records and the history (R109, R146, R202). -/
theorem exec_keeps_consumers {i : Instr} {s t : State} (hagent : i.agent ≠ .gpioDriver) (h : exec i s = .next t) :
    t.params = s.params ∧ t.seenSoc = s.seenSoc ∧ t.seenPeriph = s.seenPeriph ∧ t.notes = s.notes := by
  cases hissuer : i.agent with
  | gpioDriver => exact absurd hissuer hagent
  | busMaster =>
    obtain ⟨-, -, -, hsoc, hperiph, hnotes, -, hparams, -⟩ := exec_bus_next hissuer h
    exact ⟨hparams, hsoc, hperiph, hnotes⟩
  | host =>
    obtain rfl | rfl := agent_host hissuer
    · obtain ⟨-, -, rfl⟩ := execCompose_next h
      obtain ⟨hsoc, hperiph, hnotes, -, -, hparams, -⟩ := composeBoard_frame s
      exact ⟨hparams, hsoc, hperiph, hnotes⟩
    · obtain ⟨rfl, -⟩ | ⟨rfl, -⟩ := execReset_next h <;> exact ⟨rfl, rfl, rfl, rfl⟩

/-- A kind that is not GPIO leaves what every consumer has seen (R32). -/
theorem exec_keeps_seen {i : Instr} {s t : State} (hagent : i.agent ≠ .gpioDriver) (h : exec i s = .next t)
    (c : Consumer) : t.seen c = s.seen c := by
  obtain ⟨hparams, hsoc, hperiph, -⟩ := exec_keeps_consumers hagent h
  exact State.seen_congr hparams hsoc hperiph c

end Sys2Proof.Machine
end

section
/-! The mirror of R145: each kind that answers a next state keeps it, together with the two invariants it rests on (R166, R203). -/

namespace Sys2Proof.Safety

open Sys2Proof.Machine

/-- No kind ends before composition (R160, R168). -/
theorem exec_next_composed {i : Instr} {s t : State} (h : exec i s = .next t) : t.phase ≠ .uncomposed := by
  cases hagent : i.agent with
  | busMaster =>
    obtain ⟨hrunning, hphase, -⟩ := exec_bus_next hagent h
    simp [hphase, hrunning]
  | gpioDriver =>
    obtain ⟨line, b, rfl⟩ := agent_gpioDriver hagent
    obtain ⟨hrunning, rfl⟩ := withSplitters_next.mp h
    obtain ⟨hphase, -⟩ := s.setInput_frame line b
    simp [hphase, hrunning]
  | host =>
    obtain rfl | rfl := agent_host hagent
    · obtain ⟨-, -, rfl⟩ := execCompose_next h
      obtain ⟨hend, -⟩ | hend | hend := composeBoard_phase s <;> simp [hend]
    · obtain ⟨rfl, hrunning | hrunning⟩ | ⟨rfl, hrunning⟩ := execReset_next h <;> simp [hrunning]

/-- `RunsLegal` reads the phase and the parameters only. -/
theorem RunsLegal.congr {s t : State} (hs : RunsLegal s) (hphase : t.phase = s.phase) (hparams : t.params = s.params) :
    RunsLegal t := fun present hrunning => by
  rw [hparams, hs present (hphase ▸ hrunning)]

/-- COMPOSE checks the parameters (R166); no other kind changes them, or the phase. -/
theorem RunsLegal.exec {i : Instr} {s t : State} (hs : RunsLegal s) (h : exec i s = .next t) : RunsLegal t := by
  cases hagent : i.agent with
  | busMaster =>
    obtain ⟨-, hphase, -, -, -, -, -, hparams, -⟩ := exec_bus_next hagent h
    exact hs.congr hphase hparams
  | gpioDriver =>
    obtain ⟨line, b, rfl⟩ := agent_gpioDriver hagent
    obtain ⟨-, rfl⟩ := withSplitters_next.mp h
    obtain ⟨hphase, -, -, -, -, hparams, -⟩ := s.setInput_frame line b
    exact hs.congr hphase hparams
  | host =>
    obtain rfl | rfl := agent_host hagent
    · obtain ⟨-, hlegal, rfl⟩ := execCompose_next h
      obtain ⟨-, -, -, -, -, hparams, -⟩ := composeBoard_frame s
      exact fun _ _ => by rw [hparams, hlegal]
    · obtain ⟨rfl, -⟩ | ⟨rfl, -⟩ := execReset_next h <;> exact hs.congr rfl rfl

/-- `ConsumersMirror` reads the phase, the parameters, the levels and the records only. -/
theorem ConsumersMirror.congr {s t : State} (hs : ConsumersMirror s) (hphase : t.phase = s.phase)
    (hparams : t.params = s.params) (hlevel : t.level = s.level) (hseen : ∀ c, t.seen c = s.seen c) :
    ConsumersMirror t := fun hrunning i => by
  obtain ⟨-, hsoc, hperiph⟩ := hs (hphase ▸ hrunning) i
  simp only [State.output_eq, hparams, hlevel, hseen, hsoc, hperiph, implies_true, and_self]

/-- `setInput` moves the level and both consumers of its line to `b`, and no other line's (R140, R145). -/
theorem ConsumersMirror.setInput {s : State} (hs : ConsumersMirror s) (hlegal : s.params.legal = true) (i : Line)
    (b : Bool) : ConsumersMirror (s.setInput i b) := fun hrunning j => by
  obtain ⟨hphase, -, -, -, -, hparams, -⟩ := s.setInput_frame i b
  obtain ⟨-, hsoc, hperiph⟩ := hs (hphase ▸ hrunning) j
  refine ⟨fun _ => rfl, ?_, ?_⟩
  · rw [hparams, State.seen_socIn_setInput hlegal, State.level_setInput, hsoc]
  · rw [State.seen_periphIn_setInput, State.level_setInput, hperiph]

/-- A composition that nothing was delivered before leaves every level and every record undriven (R160, R203). -/
theorem ConsumersMirror.composeBoard {s : State} (hquiet : ∀ c, s.seen c = none)
    (hseen : ∀ c, (composeBoard s).seen c = s.seen c) : ConsumersMirror (composeBoard s) := fun hrunning i => by
  obtain ⟨-, -, -, hlevel⟩ | hend | hend := composeBoard_phase s
  · simp only [State.output_eq, hseen, hquiet, hlevel, implies_true, and_self]
  · simp [hrunning] at hend
  · simp [hrunning] at hend

/-- Every kind keeps the mirror, on a legal board to which nothing was delivered before composition (R145). -/
theorem ConsumersMirror.exec {i : Instr} {s t : State} (hs : ConsumersMirror s) (hlegal : RunsLegal s)
    (hquiet : QuietBeforeCompose s) (h : exec i s = .next t) : ConsumersMirror t := by
  cases hagent : i.agent with
  | busMaster =>
    obtain ⟨-, hphase, hlevel, -, -, -, -, hparams, -⟩ := exec_bus_next hagent h
    exact hs.congr hphase hparams hlevel (exec_keeps_seen (by simp [hagent]) h)
  | gpioDriver =>
    obtain ⟨line, b, rfl⟩ := agent_gpioDriver hagent
    obtain ⟨hrunning, rfl⟩ := withSplitters_next.mp h
    exact hs.setInput (hlegal true hrunning) line b
  | host =>
    have hseen := exec_keeps_seen (by simp [hagent]) h
    obtain rfl | rfl := agent_host hagent
    · obtain ⟨hphase, -, rfl⟩ := execCompose_next h
      obtain ⟨-, hnone⟩ := hquiet hphase
      exact .composeBoard hnone hseen
    · obtain ⟨rfl, -⟩ | ⟨rfl, -⟩ := execReset_next h <;> exact hs.congr rfl rfl rfl hseen

/-- Settles O45: a step stays, or runs one kind, and taking a transaction off the sequence touches none of the three. -/
theorem stepKeepsConsumersMirror : Obligations.StepKeepsConsumersMirror := by
  unfold Obligations.StepKeepsConsumersMirror
  intro s t hlegal hquiet hmirror hstep
  obtain ⟨-, ⟨-, rfl⟩ | ⟨_, rest, i, -, -, hexec⟩⟩ := step_next hstep
  · exact ⟨hlegal, hquiet, hmirror⟩
  · have hlegal' : RunsLegal { s with pending := rest } := hlegal
    have hquiet' : QuietBeforeCompose { s with pending := rest } := hquiet
    have hmirror' : ConsumersMirror { s with pending := rest } := hmirror
    exact ⟨hlegal'.exec hexec, fun huncomposed => absurd huncomposed (exec_next_composed hexec),
      hmirror'.exec hlegal' hquiet' hexec⟩

end Sys2Proof.Safety
end

section
/-! The signal splitter's transaction: its effect and where it is refused (R140, R142), and that it and the bus transactions do
not meet (R146). -/

namespace Sys2Proof.SignalSplitter

open Sys2Proof.Machine

/-- `GPIO_SET` completes in `Running(true)`, in the state of `setInput` (R140). -/
theorem exec_gpioSet_running {s : State} (h : s.phase = .running true) (i : Line) (b : Bool) :
    exec (.gpioSet i b) s = .next (s.setInput i b) :=
  withSplitters_next.mpr ⟨h, rfl⟩

/-- Settles O29: the next state is that of `setInput`, whatever the level was. -/
theorem gpioSetReachesBothConsumers : Obligations.GpioSetReachesBothConsumers := by
  unfold Obligations.GpioSetReachesBothConsumers
  intro s i b hphase
  obtain ⟨j, hj⟩ := s.params.lineOf_pinMap i
  obtain ⟨-, hnotes⟩ := s.setInput_effect i b
  refine ⟨_, exec_gpioSet_running hphase i b, ?_, fun k => ?_, ?_, ?_, fun c hsoc hperiph => ?_, _, hnotes, .refl _⟩
  · rw [State.setInput_of_lineOf hj]
  · rw [State.output_eq, State.level_setInput, if_pos rfl]
  · rw [State.seen_setInput, if_pos (.inl rfl)]
  · rw [State.seen_setInput, if_pos (.inr rfl)]
  · rw [State.seen_setInput, if_neg (not_or.mpr ⟨hsoc, hperiph⟩)]

/-- The state `s` with the splitters' side of `g`: the levels, the consumer records and the history (R29, R32). -/
def withSplitterSide (s g : State) : State :=
  { s with level := g.level, seenSoc := g.seenSoc, seenPeriph := g.seenPeriph, notes := g.notes }

/-- `setInput` reads the parameters and the splitters' side only, and writes that side only (R140, R146). -/
theorem setInput_eq_withSplitterSide {s t : State} (hparams : t.params = s.params) (hlevel : t.level = s.level)
    (hsoc : t.seenSoc = s.seenSoc) (hperiph : t.seenPeriph = s.seenPeriph) (hnotes : t.notes = s.notes) (i : Line)
    (b : Bool) : t.setInput i b = withSplitterSide t (s.setInput i b) := by
  obtain ⟨j, hj⟩ := s.params.lineOf_pinMap i
  rw [State.setInput_of_lineOf hj, State.setInput_of_lineOf (hparams ▸ hj)]
  simp only [withSplitterSide, hparams, hlevel, hsoc, hperiph, hnotes]

/-- A bus kind reads nothing of the splitters' side and carries it along (R146). -/
theorem exec_bus_withSplitterSide {i : Instr} {s t : State} (hagent : i.agent = .busMaster) (h : exec i s = .next t)
    (g : State) : exec i (withSplitterSide s g) = .next (withSplitterSide t g) := by
  cases i with
  | gpioSet line b => cases hagent
  | compose => cases hagent
  | reset => cases hagent
  | wrSr v =>
    obtain ⟨hphase, rfl⟩ := withBank_next.mp h
    refine withBank_next.mpr ⟨hphase, ?_⟩
    split <;> rfl
  | rdDr =>
    obtain ⟨hphase, rfl⟩ := withBank_next.mp h
    refine withBank_next.mpr ⟨hphase, ?_⟩
    by_cases hready : dataReady s.sr = true
    · rw [if_pos hready]
      exact if_pos hready
    · rw [if_neg hready]
      exact if_neg hready
  | _ =>
    obtain ⟨hphase, rfl⟩ := withBank_next.mp h
    exact withBank_next.mpr ⟨hphase, rfl⟩

/-- Settles O30: both orders end in the bus transaction's state with the splitters' side of `setInput`. -/
theorem busAndGpioCommute : Obligations.BusAndGpioCommute := by
  unfold Obligations.BusAndGpioCommute
  intro s i line b hphase hagent
  obtain ⟨t, hexec⟩ := RegisterBank.exec_completes hphase (i := i) (by simp [hagent])
  obtain ⟨-, htphase, hlevel, hsoc, hperiph, hnotes, -, hparams, -⟩ := exec_bus_next hagent hexec
  refine ⟨t, _, _, hexec, exec_gpioSet_running hphase line b, exec_gpioSet_running (htphase.trans hphase) line b, ?_⟩
  have hself : s.setInput line b = withSplitterSide s (s.setInput line b) :=
    setInput_eq_withSplitterSide rfl rfl rfl rfl rfl line b
  rw [setInput_eq_withSplitterSide hparams hlevel hsoc hperiph hnotes, hself]
  exact exec_bus_withSplitterSide hagent hexec _

/-- Settles O31: the frame of the bus and host kinds, and of the bus kinds on the levels. -/
theorem onlyGpioNotifies : Obligations.OnlyGpioNotifies := by
  unfold Obligations.OnlyGpioNotifies
  intro s t i hagent hexec
  obtain ⟨-, -, -, hnotes⟩ := exec_keeps_consumers hagent hexec
  refine ⟨hnotes, exec_keeps_seen hagent hexec, fun hbus => ?_⟩
  obtain ⟨-, -, hlevel, -⟩ := exec_bus_next hbus hexec
  exact hlevel

/-- Settles O9: the lookup of `PIN_MAP(i)` answers line `i` itself. -/
theorem drivenPinIsItsLine : Obligations.DrivenPinIsItsLine := by
  unfold Obligations.DrivenPinIsItsLine
  intro p i b hlegal
  rw [Params.driveAt, Params.lineOf_pinMap_of_legal hlegal, Option.map_some]

/-- Settles O53: the precondition of `GPIO_SET` fails in both phases. -/
theorem gpioRefusedWithoutSplitters : Obligations.GpioRefusedWithoutSplitters := by
  unfold Obligations.GpioRefusedWithoutSplitters
  exact fun s i b hphase => withSplitters_refused _ hphase

end Sys2Proof.SignalSplitter
end

section
/-! What the whole machine does in a phase or over a step, said once: `Aborted` enables nothing (R165), no register bank rule runs
without its bank (R100), and no kind changes a parameter, a realize outcome or the refusal mark (R34, R162). -/

namespace Sys2Proof.Machine

/-- R165, R196: no step is enabled in `Aborted`. -/
theorem step_aborted {s : State} (h : s.phase = .aborted) : step s = .fault .aborted := by
  simp [step, State.upcoming, h]

/-- R21: outside `Aborted` a step runs the next pending transaction, decoded. -/
theorem step_run {s : State} {tr : Transaction} {rest : List Transaction} {i : Instr} (h : s.phase ≠ .aborted)
    (hpending : s.pending = tr :: rest) (hdecode : decode s.params.regionSize tr = .instr i) :
    step s = exec i { s with pending := rest } := by
  simp [step, State.upcoming, h, hpending, hdecode]

/-- R165, R196: every kind answers the fault in `Aborted`. -/
theorem exec_aborted {s : State} (h : s.phase = .aborted) (i : Instr) : exec i s = .fault .aborted := by
  cases i with
  | gpioSet line b => exact withSplitters_aborted _ h
  | compose => simp [exec, execCompose, h]
  | reset => simp [exec, execReset, h]
  | _ => exact withBank_aborted _ h

/-- R100, R196: every bus kind is refused where there is no register bank. -/
theorem exec_bus_refused {i : Instr} {s : State} (h : s.phase = .uncomposed ∨ s.phase = .running false)
    (hagent : i.agent = .busMaster) : exec i s = .refused (.noRegisterBank s.markRefused) := by
  cases i with
  | gpioSet line b => cases hagent
  | compose => cases hagent
  | reset => cases hagent
  | _ => exact withBank_refused _ h

/-- R34, R162: no kind changes a parameter, a realize outcome or the refusal mark. -/
theorem exec_keeps_build {i : Instr} {s t : State} (h : exec i s = .next t) :
    t.params = s.params ∧ t.realize = s.realize ∧ t.refused = s.refused := by
  cases hagent : i.agent with
  | busMaster =>
    obtain ⟨-, -, -, -, -, -, hrefused, hparams, hrealize, -⟩ := exec_bus_next hagent h
    exact ⟨hparams, hrealize, hrefused⟩
  | gpioDriver =>
    obtain ⟨line, b, rfl⟩ := agent_gpioDriver hagent
    obtain ⟨-, rfl⟩ := withSplitters_next.mp h
    obtain ⟨-, -, -, -, hrefused, hparams, hrealize, -⟩ := s.setInput_frame line b
    exact ⟨hparams, hrealize, hrefused⟩
  | host =>
    obtain rfl | rfl := agent_host hagent
    · obtain ⟨-, -, rfl⟩ := execCompose_next h
      obtain ⟨-, -, -, -, hrefused, hparams, hrealize, -⟩ := composeBoard_frame s
      exact ⟨hparams, hrealize, hrefused⟩
    · obtain ⟨rfl, -⟩ | ⟨rfl, -⟩ := execReset_next h <;> exact ⟨rfl, rfl, rfl⟩

/-- R168: no kind changes the phase of a composed board. -/
theorem exec_keeps_running {i : Instr} {s t : State} {present : Bool} (hphase : s.phase = .running present)
    (h : exec i s = .next t) : t.phase = .running present := by
  cases hagent : i.agent with
  | busMaster =>
    obtain ⟨-, hkept, -⟩ := exec_bus_next hagent h
    exact hkept.trans hphase
  | gpioDriver =>
    obtain ⟨line, b, rfl⟩ := agent_gpioDriver hagent
    obtain ⟨-, rfl⟩ := withSplitters_next.mp h
    obtain ⟨hkept, -⟩ := s.setInput_frame line b
    exact hkept.trans hphase
  | host =>
    obtain rfl | rfl := agent_host hagent
    · obtain ⟨huncomposed, -⟩ := execCompose_next h
      simp [hphase] at huncomposed
    · obtain ⟨rfl, -⟩ | ⟨rfl, -⟩ := execReset_next h <;> exact hphase

end Sys2Proof.Machine
end

section
/-! The branches of COMPOSE, one equation each: where it is refused (R166, R168) and where the composer ends (R160 to R167). -/

namespace Sys2Proof

/-- Legal parameters have a region of whole words (R10). -/
theorem Params.legal_wordAligned {p : Params} (h : p.legal = true) : p.regionSize % 4 = 0 := by
  simp only [Params.legal, Bool.and_eq_true, beq_iff_eq] at h
  exact h.1.2

end Sys2Proof

namespace Sys2Proof.Machine

/-- R160: under legal parameters COMPOSE runs the composer. -/
theorem exec_compose_legal {s : State} (h : s.phase = .uncomposed) (hlegal : s.params.legal = true) :
    exec .compose s = .next (composeBoard s) := by
  simp [exec, execCompose, h, hlegal]

/-- R166, R196: under other parameters it is refused. -/
theorem exec_compose_illegal {s : State} (h : s.phase = .uncomposed) (hillegal : ¬ s.params.legal = true) :
    exec .compose s = .refused (.misconfigured s.markRefused) := by
  simp [exec, execCompose, h, hillegal, refuse]

/-- R168, R196: on a composed board it is refused. -/
theorem exec_compose_running {s : State} {present : Bool} (h : s.phase = .running present) :
    exec .compose s = .refused (.composeTwice s.markRefused) := by
  simp [exec, execCompose, h, refuse]

/-- R161: the SoC is mandatory, and realized first. -/
theorem composeBoard_socFails {s : State} (hsoc : s.realize.socOk = false) :
    composeBoard s = s.setPhase .aborted := by
  simp [composeBoard, hsoc]

/-- R167: an absent peripheral leaves nothing else to realize. -/
theorem composeBoard_absent {s : State} (hsoc : s.realize.socOk = true) (habsent : s.params.peripheralPresent = false) :
    composeBoard s = s.setPhase (.running false) := by
  simp [composeBoard, hsoc, habsent]

/-- R165: a present peripheral that fails aborts the board before its registers are set. -/
theorem composeBoard_periphFails {s : State} (hsoc : s.realize.socOk = true)
    (hpresent : s.params.peripheralPresent = true) (hperiph : s.realize.periphOk = false) :
    composeBoard s = s.setPhase .aborted := by
  simp [composeBoard, hsoc, hpresent, hperiph]

/-- R160, R200: a realized peripheral has its registers at 0, and the loop over the splitters decides the rest. -/
theorem composeBoard_periphRealized {s : State} (hsoc : s.realize.socOk = true)
    (hpresent : s.params.peripheralPresent = true) (hperiph : s.realize.periphOk = true) :
    composeBoard s = buildSplitters (List.finRange 13) s.clearBank := by
  simp [composeBoard, hsoc, hpresent, hperiph]

end Sys2Proof.Machine
end

section
/-! The composer's loop (R160): how it ends when every splitter realizes, and where its first failure stops it. -/

namespace Sys2Proof.Machine

/-- The level of each line after one is set (R140, R160). -/
theorem State.getElem_level_setLevel (s : State) (i j : Line) (l : Option Bool) :
    (s.setLevel i l).level[j] = if j = i then l else s.level[j] := by
  by_cases h : j = i
  · subst h
    simp
  · have hne : (i : Nat) ≠ j := fun e => h (Fin.ext e.symm)
    simp [h, Vector.getElem_set_ne _ _ hne]

/-- R160, R163: with every splitter realized the loop ends in `Running(true)`, every level undriven. -/
theorem buildSplitters_allRealize {s : State} (hok : ∀ i : Line, s.realize.splitOk[i] = true) :
    buildSplitters (List.finRange 13) s = { s with phase := .running true, level := Vector.replicate 13 none } := by
  obtain ⟨lv, heq, ⟨-, hphase, hlv⟩ | ⟨⟨i, -, hfails⟩, -⟩⟩ := buildSplitters_cases (List.finRange 13) s
  · have hundriven : lv = Vector.replicate 13 none := Vector.ext fun j hj => by simpa using hlv ⟨j, hj⟩
    rw [heq, hphase, hundriven]
  · simp [hok i] at hfails

/-- R165: a splitter that fails, wherever it stands in the loop, aborts the board. -/
theorem buildSplitters_aborts {s : State} {i : Line} (hfails : s.realize.splitOk[i] = false) :
    (buildSplitters (List.finRange 13) s).phase = .aborted := by
  obtain ⟨lv, -, ⟨hok, -⟩ | ⟨-, hphase⟩⟩ := buildSplitters_cases (List.finRange 13) s
  · simp [hok i (List.mem_finRange i)] at hfails
  · exact hphase

/-- R160's loop: it undrives the lines before the first failure, and stops there. -/
theorem buildSplitters_stops {i : Line} (before after : List Line) {s : State} (hfails : s.realize.splitOk[i] = false)
    (hok : ∀ j ∈ before, s.realize.splitOk[j] = true) :
    ∃ lv, buildSplitters (before ++ i :: after) s = { s with phase := .aborted, level := lv } ∧
      ∀ j : Line, lv[j] = if j ∈ before then none else s.level[j] := by
  induction before generalizing s with
  | nil => exact ⟨s.level, if_neg (by simp [hfails]), fun j => by simp⟩
  | cons k rest ih =>
    obtain ⟨hk, hrest⟩ := List.forall_mem_cons.mp hok
    obtain ⟨lv, heq, hlv⟩ := ih (s := s.setLevel k none) hfails hrest
    refine ⟨lv, (if_pos hk).trans heq, fun j => ?_⟩
    rw [hlv, State.getElem_level_setLevel]
    by_cases hj : j = k <;> simp [hj]

/-- The 13 lines in order: those below `i`, then `i`, then those above it. -/
theorem finRange_split (i : Line) :
    List.finRange 13 = (List.finRange 13).filter (· < i) ++ i :: (List.finRange 13).filter (i < ·) := by
  revert i; decide

end Sys2Proof.Machine
end

section
/-! The wiring graph (R164, R169): no consumer is fed twice, and each connection point has the neighbours of its own splitter. -/

namespace Sys2Proof.Machine

/-- R164: under legal parameters no two splitter outputs feed the same consumer input. -/
theorem consumerOf_injective {p : Params} (hlegal : p.legal = true) {i j : Line} {k l : Output}
    (h : consumerOf p i k = consumerOf p j l) : i = j ∧ k = l := by
  have houtputs (k : Output) : k = 0 ∨ k = 1 := by revert k; decide
  obtain rfl | rfl := houtputs k <;> obtain rfl | rfl := houtputs l
  · have hpin : p.pinMap[i] = p.pinMap[j] := by simpa [consumerOf] using h
    exact ⟨Params.legal_injective hlegal hpin, rfl⟩
  · simp [consumerOf] at h
  · simp [consumerOf] at h
  · exact ⟨by simpa [consumerOf] using h, rfl⟩

/-- R32: 13 splitters with two outputs each feed 26 consumer inputs. -/
theorem length_consumers (p : Params) : (consumers p).length = 26 := by
  simp [consumers, List.length_flatMap]

/-- R164: under legal parameters the consumer inputs are distinct. -/
theorem nodup_consumers {p : Params} (hlegal : p.legal = true) : (consumers p).Nodup := by
  refine List.nodup_flatMap.mpr ⟨fun i _ => ?_, ?_⟩
  · exact (List.nodup_finRange 2).map fun k l h => (consumerOf_injective hlegal h).2
  · refine (List.nodup_finRange 13).imp fun {i j} hij => ?_
    simp only [Function.onFun, List.disjoint_left, List.mem_map]
    rintro _ ⟨k, -, rfl⟩ ⟨l, -, h⟩
    exact hij (consumerOf_injective hlegal h).1.symm

/-- R164: a splitter's one producer is the SoC output pin of its entry. -/
theorem mem_wiring_into_splitterIn {p : Params} {i : Line} {e : Endpoint} :
    (e, .splitterIn i) ∈ wiring p ↔ e = .socOut p.pinMap[i] := by
  simp [mem_wiring]

/-- R164: under legal parameters an SoC output pin of the map feeds the splitter of its entry only. -/
theorem mem_wiring_from_socOut {p : Params} (hlegal : p.legal = true) {i : Line} {e : Endpoint} :
    (.socOut p.pinMap[i], e) ∈ wiring p ↔ e = .splitterIn i := by
  rw [mem_wiring]
  constructor
  · rintro ⟨j, ⟨hpin, rfl⟩ | ⟨k, ⟨h, -⟩ | ⟨h, -⟩⟩⟩
    · rw [Params.legal_injective hlegal (Endpoint.socOut.inj hpin)]
    · cases h
    · cases h
  · rintro rfl
    exact ⟨i, .inl ⟨rfl, rfl⟩⟩

/-- R169: a splitter's input leads to its two outputs. -/
theorem mem_wiring_from_splitterIn {p : Params} {i : Line} {e : Endpoint} :
    (.splitterIn i, e) ∈ wiring p ↔ e = .splitterOut i 0 ∨ e = .splitterOut i 1 := by
  simp [mem_wiring, Fin.exists_fin_two]

/-- R169: a splitter's output is fed by its input only. -/
theorem mem_wiring_into_splitterOut {p : Params} {i : Line} {k : Output} {e : Endpoint} :
    (e, .splitterOut i k) ∈ wiring p ↔ e = .splitterIn i := by
  simp [mem_wiring]

/-- R164: a splitter's output leads to its consumer only. -/
theorem mem_wiring_from_splitterOut {p : Params} {i : Line} {k : Output} {e : Endpoint} :
    (.splitterOut i k, e) ∈ wiring p ↔ e = .consumer (consumerOf p i k) := by
  rw [mem_wiring]
  constructor
  · rintro ⟨_, ⟨h, -⟩ | ⟨_, ⟨h, -⟩ | ⟨h, rfl⟩⟩⟩
    · cases h
    · cases h
    · cases h
      rfl
  · rintro rfl
    exact ⟨i, .inr ⟨k, .inr ⟨rfl, rfl⟩⟩⟩

/-- R169: every arrow leads one layer on. -/
theorem layer_of_mem_wiring {p : Params} {a b : Endpoint} (h : (a, b) ∈ wiring p) : b.layer = a.layer + 1 := by
  obtain ⟨i, ⟨rfl, rfl⟩ | ⟨k, ⟨rfl, rfl⟩ | ⟨rfl, rfl⟩⟩⟩ := mem_wiring.mp h <;> rfl

/-- R164: two of a line's arrows reach a consumer. -/
theorem length_consumerArrows_of_line (p : Params) (i : Line) :
    ((wire p i ++ fanOut i).filter fun e => e.2.layer == 3).length = 2 := rfl

/-- R163, R169: 26 arrows of the whole graph reach a consumer. -/
theorem length_consumerArrows (p : Params) : ((wiring p).filter fun e => e.2.layer == 3).length = 26 := by
  simp only [wiring, List.filter_flatMap, List.length_flatMap, length_consumerArrows_of_line, List.map_const',
    List.length_finRange, List.sum_replicate, smul_eq_mul, Nat.reduceMul]

end Sys2Proof.Machine
end

section
/-! The statements about the board composer (R160 to R169), and two about every step (R21, R34, R162). -/

namespace Sys2Proof.BoardComposer

open Sys2Proof.Machine

/-- Settles O32: the registers are cleared, and the loop meets no failure. -/
theorem composeBuildsTheBoard : Obligations.ComposeBuildsTheBoard := by
  unfold Obligations.ComposeBuildsTheBoard
  intro s hphase hlegal hpresent hsoc hperiph hsplit
  have hboard : composeBoard s =
      { s with phase := .running true, cr := 0, sr := 0, level := Vector.replicate 13 none } := by
    rw [composeBoard_periphRealized hsoc hpresent hperiph, buildSplitters_allRealize (s := s.clearBank) hsplit]
    rfl
  have hrunning : (composeBoard s).phase = .running true := by rw [hboard]
  have hwiring : (composeBoard s).wiring = wiring s.params := by rw [State.wiring_running hrunning, hboard]
  refine ⟨_, exec_compose_legal hphase hlegal, hboard, State.splitterCount_running hrunning, hwiring, ?_⟩
  rw [hwiring, length_consumerArrows]

/-- Settles O35: the peripheral fails before the loop, a splitter in it; and in `Aborted` nothing is enabled. -/
theorem peripheralFailureAborts : Obligations.PeripheralFailureAborts := by
  unfold Obligations.PeripheralFailureAborts
  refine ⟨fun s hphase hlegal hsoc hpresent hfailure => ⟨_, exec_compose_legal hphase hlegal, ?_⟩,
    fun s hphase => ⟨step_aborted hphase, exec_aborted hphase⟩⟩
  cases hperiph : s.realize.periphOk with
  | false => rw [composeBoard_periphFails hsoc hpresent hperiph, State.setPhase_phase]
  | true =>
    obtain ⟨i, hfails⟩ := hfailure.resolve_left (by simp [hperiph])
    rw [composeBoard_periphRealized hsoc hpresent hperiph]
    exact buildSplitters_aborts (s := s.clearBank) hfails

/-- Settles O36: the loop over the 13 lines, cut at line `i`. -/
theorem splitterFailureStopsTheLoop : Obligations.SplitterFailureStopsTheLoop := by
  unfold Obligations.SplitterFailureStopsTheLoop
  intro s i hphase hlegal hsoc hpresent hperiph hfails hbefore
  obtain ⟨lv, heq, hlv⟩ := buildSplitters_stops ((List.finRange 13).filter (· < i)) ((List.finRange 13).filter (i < ·))
    (s := s.clearBank) hfails fun j hj => hbefore j (by simpa using hj)
  refine ⟨lv, ?_, by simpa using hlv⟩
  rw [exec_compose_legal hphase hlegal, composeBoard_periphRealized hsoc hpresent hperiph, finRange_split i, heq]
  rfl

/-- Settles O37: a step stays, or runs one kind, and no kind leaves `Running`. -/
theorem composeHappensOnce : Obligations.ComposeHappensOnce := by
  unfold Obligations.ComposeHappensOnce
  refine fun s present hphase => ⟨exec_compose_running hphase, fun i t => exec_keeps_running hphase, fun t hstep => ?_⟩
  obtain ⟨-, ⟨-, rfl⟩ | ⟨_, rest, i, -, -, hexec⟩⟩ := step_next hstep
  · exact hphase
  · exact exec_keeps_running (s := { s with pending := rest }) hphase hexec

/-- Settles O39: the neighbours of each connection point, and the layers of each arrow. -/
theorem wiringFeedsEachConsumerOnce : Obligations.WiringFeedsEachConsumerOnce := by
  unfold Obligations.WiringFeedsEachConsumerOnce
  exact fun p hlegal => ⟨length_consumers p, nodup_consumers hlegal, fun _ _ _ _ => consumerOf_injective hlegal,
    fun _ _ => mem_wiring_into_splitterIn, fun _ _ => mem_wiring_from_socOut hlegal,
    fun _ _ => mem_wiring_from_splitterIn, fun _ _ _ => mem_wiring_into_splitterOut,
    fun _ _ _ => mem_wiring_from_splitterOut, fun _ _ => layer_of_mem_wiring⟩

/-- Settles O50: a step stays, or runs one kind, and taking a transaction off the sequence touches none of the three. -/
theorem stepKeepsParametersAndMark : Obligations.StepKeepsParametersAndMark := by
  unfold Obligations.StepKeepsParametersAndMark
  intro s t hstep
  obtain ⟨-, ⟨-, rfl⟩ | ⟨_, rest, i, -, -, hexec⟩⟩ := step_next hstep
  · exact ⟨rfl, rfl, rfl⟩
  · exact exec_keeps_build (s := { s with pending := rest }) hexec

/-- Settles O2: the two sides of the test for `Aborted`. -/
theorem stepRunsDecodedTransaction : Obligations.StepRunsDecodedTransaction := by
  unfold Obligations.StepRunsDecodedTransaction
  intro s tr rest i hpending hdecode
  split
  · next haborted => exact step_aborted haborted
  · next henabled => exact step_run henabled hpending hdecode

/-- Settles O33: the SoC is realized before anything else is looked at. -/
theorem socFailureAborts : Obligations.SocFailureAborts := by
  unfold Obligations.SocFailureAborts
  intro s hphase hlegal hsoc
  rw [exec_compose_legal hphase hlegal, composeBoard_socFails hsoc]
  rfl

/-- Settles O34: composition only sets the phase, and in that phase there is no bank. -/
theorem absentPeripheralRunsWithoutBank : Obligations.AbsentPeripheralRunsWithoutBank := by
  unfold Obligations.AbsentPeripheralRunsWithoutBank
  intro s hphase hlegal hsoc habsent
  refine ⟨s.setPhase (.running false), ?_, rfl, rfl, rfl, fun i hagent => exec_bus_refused (.inr rfl) hagent⟩
  rw [exec_compose_legal hphase hlegal, composeBoard_absent hsoc habsent]

/-- Settles O38: each of the three violations contradicts what legal parameters are. -/
theorem illegalParametersAreRefused : Obligations.IllegalParametersAreRefused := by
  unfold Obligations.IllegalParametersAreRefused
  intro s hphase hviolation
  refine exec_compose_illegal hphase fun hlegal => ?_
  obtain hsmall | hunaligned | ⟨i, j, hne, hpin⟩ := hviolation
  · exact absurd (Params.legal_regionSize hlegal) (by omega)
  · exact hunaligned (Params.legal_wordAligned hlegal)
  · exact hne (Params.legal_injective hlegal hpin)

end Sys2Proof.BoardComposer
end

section
/-! What one bus transaction logs, through decode and step (R186). -/

namespace Sys2Proof.RegisterBank

open Sys2Proof.Machine

/-- R21: in `Running(true)`, where the kind the next transaction decodes to completes, the step ends in the same state. -/
theorem step_next_of_exec_running {s t : State} {tr : Transaction} {rest : List Transaction} {i : Instr}
    (h : s.phase = .running true) (hpending : s.pending = tr :: rest)
    (hdecode : decode s.params.regionSize tr = .instr i) (hexec : exec i { s with pending := rest } = .next t) :
    step s = .next t :=
  (step_run (by simp [h]) hpending hdecode).trans hexec

/-- Settles O17: one case per clause of R186; the negated clauses before it are what selects the kind of the read. -/
theorem diagnosticOfARead : Obligations.DiagnosticOfARead := by
  unfold Obligations.DiagnosticOfARead
  intro s off size rest hphase hpending
  have hrunning : { s with pending := rest }.phase = .running true := hphase
  have hstep {i : Instr} {t : State} :
      decode s.params.regionSize (.busR off size) = .instr i → exec i { s with pending := rest } = .next t →
        step s = .next t :=
    step_next_of_exec_running hphase hpending
  split_ifs with hsize hoob hplain hdata hready
  · exact ⟨_, hstep (decode_busR_badSize _ off hsize) (withBank_running hrunning _), rfl⟩
  all_goals obtain rfl := not_not.mp hsize
  · exact ⟨_, hstep (decode_busR_oob hoob) (withBank_running hrunning _), rfl⟩
  all_goals have hdecode := decode_busR_inside (Nat.not_le.mp hoob)
  · rw [List.append_nil]
    obtain rfl | rfl := hplain
    · exact ⟨_, hstep hdecode (exec_rdCr_running hrunning), rfl⟩
    · exact ⟨_, hstep hdecode (Safety.exec_rdSr_running hrunning), rfl⟩
  · subst hdata
    rw [List.append_nil]
    exact ⟨_, hstep hdecode (exec_rdDr_ready hrunning hready), rfl⟩
  · subst hdata
    exact ⟨_, hstep hdecode (exec_rdDr_notReady hrunning hready), rfl⟩
  · obtain ⟨hcr, hsr⟩ := not_or.mp hplain
    rw [if_neg hcr, if_neg hsr, if_neg hdata] at hdecode
    exact ⟨_, hstep hdecode (withBank_running hrunning _), rfl⟩

end Sys2Proof.RegisterBank
end

section
/-! A script by the machine's step (R83, R84): what a delivered transaction and the first round of a poll loop leave. -/

namespace Sys2Proof.Machine

/-- R84: after a read, the poll's condition is a test of the word the read handed back. -/
@[simp] theorem State.pollDone_handBack (s : State) (w mask val : Word) :
    (s.handBack w).pollDone mask val = (w &&& mask == val) := by
  simp [State.pollDone]

/-- A script goes on in the state in which the transaction it delivers ends. -/
theorem runScript_deliver {tr : Transaction} {s t : State} (h : step (s.deliver tr) = .next t) (fuel : Nat)
    (rest : List ScriptItem) : runScript fuel (.deliver tr :: rest) s = runScript fuel rest t := by
  simp only [runScript, runItem, h]

/-- R84: a poll loop whose first read meets its condition ends after that read. -/
theorem runScript_poll_first {off : Nat} {mask val : Word} {s t : State} (h : step (s.deliver (.busR off 4)) = .next t)
    (hdone : t.pollDone mask val = true) (fuel : Nat) (rest : List ScriptItem) :
    runScript (fuel + 1) (.poll off mask val :: rest) s = runScript (fuel + 1) rest t := by
  simp only [runScript, runItem, runPoll, h, if_pos hdone]

end Sys2Proof.Machine
end

section
/-! The firmware's handshake (R206, R207): the CR write raises SR bit 0, so the first poll ends and the DR read draws. -/

namespace Sys2Proof.RegisterBank

open Sys2Proof.Machine Sys2Proof.Safety

/-- A transaction delivered in `Running(true)` is the one the step runs, and those that were pending stay (R21). -/
theorem step_deliver_of_exec_running {s t : State} {tr : Transaction} {i : Instr} (h : s.phase = .running true)
    (hdecode : decode s.params.regionSize tr = .instr i) (hexec : exec i s = .next t) :
    step (s.deliver tr) = .next t :=
  step_next_of_exec_running h (s.deliver_pending tr) hdecode hexec

/-- R112: a CR write delivered in `Running(true)`, through decode and step. -/
theorem step_deliver_wrCr {s : State} (h : s.phase = .running true) (hregion : 0x0 < s.params.regionSize) (v : Word) :
    step (s.deliver (.busW 0x0 4 v.toNat)) = .next ((s.setCr v).setSr (mergeReady s.sr v)) :=
  step_deliver_of_exec_running h (decode_busW_inside v hregion) (exec_wrCr_running h v)

/-- R104: an SR read delivered in `Running(true)`, through decode and step. -/
theorem step_deliver_rdSr {s : State} (h : s.phase = .running true) (hregion : 0x4 < s.params.regionSize) :
    step (s.deliver (.busR 0x4 4)) = .next (s.handBack s.sr) :=
  step_deliver_of_exec_running h (decode_busR_inside hregion) (exec_rdSr_running h)

/-- R106: a DR read delivered in `Running(true)` with data ready, through decode and step. -/
theorem step_deliver_rdDr_ready {s : State} (h : s.phase = .running true) (hregion : 0x8 < s.params.regionSize)
    (hready : dataReady s.sr = true) : step (s.deliver (.busR 0x8 4)) = .next (s.advanceDraw.handBack s.nextDraw) :=
  step_deliver_of_exec_running h (decode_busR_inside hregion) (exec_rdDr_ready h hready)

/-- R84: the mask and value of the firmware's poll test the data-ready bit. -/
theorem dataReady_iff_and_one (w : Word) : dataReady w = true ↔ w &&& 0x1#32 = 0x1#32 := by
  rw [dataReady, BitVec.and_one_eq_setWidth_ofBool_getLsbD]
  cases w.getLsbD 0 <;> decide

/-- R206: a poll that finds data ready ends after one read, which hands the status word back. -/
theorem runScript_poll_dataReady {s : State} (h : s.phase = .running true) (hregion : 0x4 < s.params.regionSize)
    (hready : dataReady s.sr = true) (fuel : Nat) (rest : List ScriptItem) :
    runScript (fuel + 1) (.poll 0x4 0x1#32 0x1#32 :: rest) s = runScript (fuel + 1) rest (s.handBack s.sr) := by
  refine runScript_poll_first (step_deliver_rdSr h hregion) ?_ fuel rest
  rw [State.pollDone_handBack, beq_iff_eq]
  exact (dataReady_iff_and_one s.sr).mp hready

/-- R206: the reads of the handshake, where data is ready: the poll ends after one round and the DR read takes a draw. -/
theorem runScript_poll_rdDr {s : State} (h : s.phase = .running true) (hregion : 0x8 < s.params.regionSize)
    (hready : dataReady s.sr = true) (fuel : Nat) :
    runScript (fuel + 1) [.poll 0x4 0x1#32 0x1#32, .deliver (.busR 0x8 4)] s =
      some (.next ((s.handBack s.sr).advanceDraw.handBack s.nextDraw)) := by
  have hdraw : step ((s.handBack s.sr).deliver (.busR 0x8 4)) =
      .next ((s.handBack s.sr).advanceDraw.handBack s.nextDraw) := step_deliver_rdDr_ready h hregion hready
  rw [runScript_poll_dataReady h (by omega) hready, runScript_deliver hdraw, runScript]

/-- Settles O52: the enabling CR write raises SR bit 0, and from there the two reads of the handshake find data ready. -/
theorem handshakeYieldsAFreshDraw : Obligations.HandshakeYieldsAFreshDraw := by
  unfold Obligations.HandshakeYieldsAFreshDraw
  intro s hphase hregion
  have hready : dataReady (mergeReady s.sr 0x4#32) = true := getLsbD_zero_mergeReady s.sr 0x4#32
  have henable : step (s.deliver (.busW 0x0 4 0x4)) = .next ((s.setCr 0x4#32).setSr (mergeReady s.sr 0x4#32)) :=
    step_deliver_wrCr hphase (by omega) 0x4#32
  have hreads := runScript_poll_rdDr (s := (s.setCr 0x4#32).setSr (mergeReady s.sr 0x4#32)) hphase
    (by simp only [State.setSr_params, State.setCr_params]; omega) hready 0
  exact ⟨_, _, (runScript_deliver henable 1 _).trans hreads, hready, List.append_assoc s.returned _ _, rfl⟩

end Sys2Proof.RegisterBank
end

section
/-! The decoder and the encoder (R76 to R79): the decode of a bus value of any width, of the refused writes, and the decode and encode of
each kind, one the inverse of the other. -/

namespace Sys2Proof.Encoding

open Sys2Proof.RegisterBank

/-- R79: an offset selects no register exactly when it is inside the region and none of the three. -/
theorem invalidOffset_iff (regionSize off : Nat) :
    invalidOffset regionSize off = true ↔ off < regionSize ∧ off ≠ 0x0 ∧ off ≠ 0x4 ∧ off ≠ 0x8 := by
  simp [invalidOffset, and_assoc]

/-- R75, D23: the decoder reads bits 31:0 of a bus value only. -/
theorem decode_narrow (regionSize : Nat) (tr : Transaction) : decode regionSize tr.narrow = decode regionSize tr := by
  cases tr with
  | busW off size value => rw [Transaction.narrow, decode, decode, Laws.busWord_toNat]
  | _ => rfl

/-- R77: a write of the wrong size, whatever the offset and the region. -/
theorem decode_busW_badSize (regionSize off : Nat) {size : Nat} (v : Word) (h : size ≠ 4) :
    decode regionSize (.busW off size v.toNat) = .instr (.wrBadSize off size v) := by
  rw [decode, Laws.busWord_toNat, decodeWrite, if_pos h]

/-- R77: a 4-byte write at or past the end of the region. -/
theorem decode_busW_oob {regionSize off : Nat} (v : Word) (h : regionSize ≤ off) :
    decode regionSize (.busW off 4 v.toNat) = .instr (.wrOob off v) := by
  have hdecode : decodeWrite regionSize off 4 v = .wrOob off v := if_pos h
  rw [decode, Laws.busWord_toNat, hdecode]

/-- Settles O4: the conditions of each kind are the ones under which the decoder's tests select it. -/
theorem decodeOfEncode : Obligations.DecodeOfEncode := by
  unfold Obligations.DecodeOfEncode
  intro regionSize i hwf
  cases i with
  | rdBadSize off size => exact decode_busR_badSize regionSize off (bne_iff_ne.mp hwf)
  | rdOob off => exact decode_busR_oob (of_decide_eq_true hwf)
  | rdCr => exact decode_busR_inside (of_decide_eq_true hwf)
  | rdSr => exact decode_busR_inside (of_decide_eq_true hwf)
  | rdDr => exact decode_busR_inside (of_decide_eq_true hwf)
  | rdInvalid off =>
    obtain ⟨hoff, hcr, hsr, hdr⟩ := (invalidOffset_iff regionSize off).mp hwf
    rw [encode, decode_busR_inside hoff, if_neg hcr, if_neg hsr, if_neg hdr]
  | wrBadSize off size v => exact decode_busW_badSize regionSize off v (bne_iff_ne.mp hwf)
  | wrOob off v => exact decode_busW_oob v (of_decide_eq_true hwf)
  | wrCr v => exact decode_busW_inside v (of_decide_eq_true hwf)
  | wrSr v => exact decode_busW_inside v (of_decide_eq_true hwf)
  | wrDr v => exact decode_busW_inside v (of_decide_eq_true hwf)
  | wrInvalid off v =>
    obtain ⟨hoff, hcr, hsr, hdr⟩ := (invalidOffset_iff regionSize off).mp hwf
    rw [encode, decode_busW_inside v hoff, if_neg hcr, if_neg hsr, if_neg hdr]
  | gpioSet line b => exact decode_gpio_line regionSize line b
  | compose => rfl
  | reset => rfl

/-- R76: the kind of a read meets its conditions and is that read, in a region that holds the three registers. -/
theorem decodeRead_selects {regionSize : Nat} (h : 0xC ≤ regionSize) (off size : Nat) :
    (decodeRead regionSize off size).wellFormed regionSize = true ∧
      encode (decodeRead regionSize off size) = .busR off size := by
  unfold decodeRead
  split_ifs with hsize hoob hcr hsr hdr
  · exact ⟨bne_iff_ne.mpr hsize, rfl⟩
  all_goals obtain rfl := not_not.mp hsize
  · exact ⟨decide_eq_true hoob, rfl⟩
  · exact ⟨decide_eq_true (by omega), by rw [hcr, encode]⟩
  · exact ⟨decide_eq_true (by omega), by rw [hsr, encode]⟩
  · exact ⟨decide_eq_true (by omega), by rw [hdr, encode]⟩
  · exact ⟨(invalidOffset_iff regionSize off).mpr ⟨by omega, hcr, hsr, hdr⟩, rfl⟩

/-- R77: the kind of a write meets its conditions and is that write, in a region that holds the three registers. -/
theorem decodeWrite_selects {regionSize : Nat} (h : 0xC ≤ regionSize) (off size : Nat) (v : Word) :
    (decodeWrite regionSize off size v).wellFormed regionSize = true ∧
      encode (decodeWrite regionSize off size v) = .busW off size v.toNat := by
  unfold decodeWrite
  split_ifs with hsize hoob hcr hsr hdr
  · exact ⟨bne_iff_ne.mpr hsize, rfl⟩
  all_goals obtain rfl := not_not.mp hsize
  · exact ⟨decide_eq_true hoob, rfl⟩
  · exact ⟨decide_eq_true (by omega), by rw [hcr, encode]⟩
  · exact ⟨decide_eq_true (by omega), by rw [hsr, encode]⟩
  · exact ⟨decide_eq_true (by omega), by rw [hdr, encode]⟩
  · exact ⟨(invalidOffset_iff regionSize off).mpr ⟨by omega, hcr, hsr, hdr⟩, rfl⟩

/-- Settles O5: format by format, and a fetch or a line past the last decodes to no kind. -/
theorem decodeSelectsByItsConditions : Obligations.DecodeSelectsByItsConditions := by
  unfold Obligations.DecodeSelectsByItsConditions
  intro regionSize tr i hregion hdecode
  cases tr with
  | busR off size =>
    obtain rfl := Decoded.instr.inj hdecode
    exact decodeRead_selects hregion off size
  | busW off size value =>
    obtain rfl := Decoded.instr.inj hdecode
    exact decodeWrite_selects hregion off size (busWord value)
  | gpio line b =>
    by_cases hline : line < 13
    · obtain rfl := Decoded.instr.inj ((decode_gpio_line regionSize ⟨line, hline⟩ b).symm.trans hdecode)
      exact ⟨rfl, rfl⟩
    · cases (decode_gpio_badLine regionSize b (Nat.not_lt.mp hline)).symm.trans hdecode
  | host op => cases op <;> obtain rfl := Decoded.instr.inj hdecode <;> exact ⟨rfl, rfl⟩
  | fetch off => cases hdecode

/-- Settles O7: each tuple is a case of one of the decoder's rules. -/
theorem decodedTuples : Obligations.DecodedTuples := by
  unfold Obligations.DecodedTuples
  exact ⟨decode_busR_badSize 0x10 0x0 (by decide), decode_busR_oob le_rfl, decode_busR_inside (by decide),
    decode_busR_inside (by decide), decode_busW_inside 0xFFFFFFFB#32 (by decide), decode_busW_inside 0x20#32 (by decide),
    decode_busW_inside 4#32 (by decide), decode_gpio_line 0x10 12 true, decode_gpio_badLine 0x10 true le_rfl⟩

/-- R51: the offset of `RNG_BASE + off` is `off`. -/
theorem offsetOf_base_add (p : Params) (off : Nat) : p.offsetOf (p.rngBase + off) = some off := by
  rw [Params.offsetOf, if_pos (Nat.le_add_right _ _), Nat.add_sub_cancel_left]

/-- An address below `RNG_BASE` has no offset (log 32). -/
theorem offsetOf_below {p : Params} {addr : Nat} (h : addr < p.rngBase) : p.offsetOf addr = none :=
  if_neg (Nat.not_le.mpr h)

/-- Settles O8: reads and writes take their offset from the same lookup. -/
theorem offsetIsAddressMinusBase : Obligations.OffsetIsAddressMinusBase := by
  unfold Obligations.OffsetIsAddressMinusBase
  refine fun p size value => ⟨fun off => ?_, fun addr hbelow => ?_⟩
  · simp only [Params.readAt, Params.writeAt, offsetOf_base_add, Option.map_some, and_self]
  · simp only [Params.readAt, Params.writeAt, offsetOf_below hbelow, Option.map_none, and_self]

end Sys2Proof.Encoding
end

section
/-! The two merges of the register bank, bit by bit (R112, R114, R118, R120): writing the same word again changes nothing. -/

namespace Sys2Proof.Machine

/-- R118, R120: bits 5 and 6 survive where the word holds 1, every other bit stays. -/
theorem getLsbD_clearSticky_ite (sr v : Word) (j : Nat) :
    (clearSticky sr v).getLsbD j = if j = 5 ∨ j = 6 then sr.getLsbD j && v.getLsbD j else sr.getLsbD j := by
  rw [getLsbD_clearSticky]
  by_cases hsticky : j = 5 ∨ j = 6
  · obtain rfl | rfl := hsticky <;> simp
  · obtain ⟨hfive, hsix⟩ := not_or.mp hsticky
    simp [hfive, hsix]

/-- R115: a second equal CR write merges the same bit into SR. -/
theorem mergeReady_idem (sr v : Word) : mergeReady (mergeReady sr v) v = mergeReady sr v := by
  refine BitVec.eq_of_getLsbD_eq fun j _ => ?_
  by_cases hready : j = 0 <;> simp only [getLsbD_mergeReady, hready, if_true, if_false]

/-- R120: a second equal SR write clears the same bits. -/
theorem clearSticky_idem (sr v : Word) : clearSticky (clearSticky sr v) v = clearSticky sr v := by
  refine BitVec.eq_of_getLsbD_eq fun j _ => ?_
  rw [getLsbD_clearSticky, getLsbD_clearSticky, Bool.and_assoc, Bool.and_self]

/-- R118: on a bus value the warning test is about its low three bits. -/
theorem setsReadOnlyBits_busWord (value : Nat) : setsReadOnlyBits (busWord value) = true ↔ value % 8 ≠ 0 := by
  rw [setsReadOnlyBits, bne_iff_ne, ne_eq, ← BitVec.toNat_inj, BitVec.extractLsb'_toNat, busWord, BitVec.toNat_ofNat]
  simp only [Nat.shiftRight_zero, BitVec.toNat_ofNat]
  omega

end Sys2Proof.Machine
end

section
/-! The bus writes: the kinds that only log (R110, R111), and the laws of R114, R115, R120 and R187. -/

namespace Sys2Proof.RegisterBank

open Sys2Proof.Machine Sys2Proof.Safety Sys2Proof.Encoding

/-- R119: an SR write that warns logs once, and clears its bits all the same. -/
theorem exec_wrSr_warns {s : State} (h : s.phase = .running true) {v : Word} (hwarn : setsReadOnlyBits v = true) :
    exec (.wrSr v) s = .next ((s.log .statusReadOnlyBits 0x4 4 v).setSr (clearSticky s.sr v)) :=
  withBank_next.mpr ⟨h, by rw [if_pos hwarn]⟩

/-- R118: an SR write that does not warn only clears its bits. -/
theorem exec_wrSr_quiet {s : State} (h : s.phase = .running true) {v : Word} (hquiet : ¬ setsReadOnlyBits v = true) :
    exec (.wrSr v) s = .next (s.setSr (clearSticky s.sr v)) :=
  withBank_next.mpr ⟨h, by rw [if_neg hquiet]⟩

/-- An SR write completes, keeps the phase and CR, and clears its bits whether it warns or not (R118, R119). -/
theorem exec_wrSr_registers {s : State} (h : s.phase = .running true) (v : Word) :
    ∃ t, exec (.wrSr v) s = .next t ∧ t.phase = .running true ∧ t.cr = s.cr ∧ t.sr = clearSticky s.sr v := by
  by_cases hwarn : setsReadOnlyBits v = true
  · exact ⟨_, exec_wrSr_warns h hwarn, h, rfl, rfl⟩
  · exact ⟨_, exec_wrSr_quiet h hwarn, h, rfl, rfl⟩

/-- Settles O18: the size test comes first, and one event is the whole effect. -/
theorem writeOfWrongSize : Obligations.WriteOfWrongSize := by
  unfold Obligations.WriteOfWrongSize
  intro s off size v hphase hsize
  exact ⟨fun regionSize => decode_busW_badSize regionSize off v hsize, withBank_running hphase _⟩

/-- Settles O19: the bound test is met at `REGION_SIZE` itself, and one event is the whole effect. -/
theorem writeOutOfBounds : Obligations.WriteOutOfBounds := by
  unfold Obligations.WriteOutOfBounds
  intro s off v hphase hoff
  exact ⟨decode_busW_oob v hoff, withBank_running hphase _⟩

/-- Settles O24: one case per clause of R187; the negated clauses before it are what selects the kind of the write, and the decoder
takes a value of any width as its low word. -/
theorem diagnosticOfAWrite : Obligations.DiagnosticOfAWrite := by
  unfold Obligations.DiagnosticOfAWrite
  intro s off size value rest hphase hpending
  have hrunning : { s with pending := rest }.phase = .running true := hphase
  have hstep {i : Instr} {t : State} (hdecode : decode s.params.regionSize (.busW off size (busWord value).toNat) = .instr i)
      (hexec : exec i { s with pending := rest } = .next t) : step s = .next t :=
    step_next_of_exec_running hphase hpending
      ((decode_narrow s.params.regionSize (.busW off size value)).symm.trans hdecode) hexec
  split_ifs with hsize hoob hcontrol hstatus hquiet hdata
  · exact ⟨_, hstep (decode_busW_badSize _ off _ hsize) (withBank_running hrunning _), rfl⟩
  all_goals obtain rfl := not_not.mp hsize
  · exact ⟨_, hstep (decode_busW_oob _ hoob) (withBank_running hrunning _), rfl⟩
  all_goals have hdecode := decode_busW_inside (busWord value) (Nat.not_le.mp hoob)
  · subst hcontrol
    rw [List.append_nil]
    exact ⟨_, hstep hdecode (exec_wrCr_running hrunning _), rfl⟩
  · subst hstatus
    rw [List.append_nil]
    have hbits : ¬ setsReadOnlyBits (busWord value) = true := fun hwarn =>
      (setsReadOnlyBits_busWord value).mp hwarn hquiet
    exact ⟨_, hstep hdecode (exec_wrSr_quiet hrunning hbits), rfl⟩
  · subst hstatus
    have hbits : setsReadOnlyBits (busWord value) = true := (setsReadOnlyBits_busWord value).mpr hquiet
    exact ⟨_, hstep hdecode (exec_wrSr_warns hrunning hbits), rfl⟩
  · subst hdata
    exact ⟨_, hstep hdecode (withBank_running hrunning _), rfl⟩
  · rw [if_neg hcontrol, if_neg hstatus, if_neg hdata] at hdecode
    exact ⟨_, hstep hdecode (withBank_running hrunning _), rfl⟩

/-- Settles O25: each write leaves SR as its merge, read at bit `j`. -/
theorem statusBitsAfterWrites : Obligations.StatusBitsAfterWrites := by
  unfold Obligations.StatusBitsAfterWrites
  intro s v j hphase
  refine ⟨⟨_, exec_wrCr_running hphase v, getLsbD_mergeReady s.sr v j⟩, ?_⟩
  obtain ⟨t, hexec, -, -, hsr⟩ := exec_wrSr_registers hphase v
  exact ⟨t, hexec, by rw [hsr, getLsbD_clearSticky_ite]⟩

/-- Settles O26: the first write leaves the phase, so the second is enabled, and both merges are idempotent. -/
theorem repeatedWritesAreIdempotent : Obligations.RepeatedWritesAreIdempotent := by
  unfold Obligations.RepeatedWritesAreIdempotent
  intro s v hphase
  constructor
  · have hwritten : ((s.setCr v).setSr (mergeReady s.sr v)).phase = .running true := hphase
    refine ⟨_, _, exec_wrCr_running hphase v, exec_wrCr_running hwritten v, ?_⟩
    simp only [State.setSr, State.setCr, mergeReady_idem]
  · obtain ⟨t, hfirst, hrunning, hcr, hsr⟩ := exec_wrSr_registers hphase v
    obtain ⟨u, hsecond, -, hcr', hsr'⟩ := exec_wrSr_registers hrunning v
    exact ⟨t, u, hfirst, hsecond, by rw [hsr', hsr, clearSticky_idem], hcr', hcr⟩

end Sys2Proof.RegisterBank
end

section
/-! The status word over any kind and any step: its bits other than bit 0 only fall, and bit 0 follows CR (R25, R26). -/

namespace Sys2Proof.Machine

/-- COMPOSE leaves SR, or sets it to 0 (R160, R200). -/
theorem composeBoard_sr (s : State) : (composeBoard s).sr = s.sr ∨ (composeBoard s).sr = 0 := by
  unfold composeBoard
  split_ifs
  · exact .inl rfl
  · exact .inl rfl
  · exact .inl rfl
  · obtain ⟨lv, hloop, -⟩ := buildSplitters_cases (List.finRange 13) s.clearBank
    rw [hloop]
    exact .inr rfl

/-- COMPOSE alone changes the phase (R168). -/
theorem exec_keeps_phase {i : Instr} {s t : State} (h : exec i s = .next t) (hother : i ≠ .compose) :
    t.phase = s.phase := by
  cases hagent : i.agent with
  | busMaster =>
    obtain ⟨-, hphase, -⟩ := exec_bus_next hagent h
    exact hphase
  | gpioDriver =>
    obtain ⟨line, b, rfl⟩ := agent_gpioDriver hagent
    obtain ⟨-, rfl⟩ := withSplitters_next.mp h
    obtain ⟨hphase, -⟩ := s.setInput_frame line b
    exact hphase
  | host =>
    obtain rfl | rfl := agent_host hagent
    · exact absurd rfl hother
    · obtain ⟨rfl, -⟩ | ⟨rfl, -⟩ := execReset_next h <;> rfl

/-- R26: no kind sets an SR bit other than bit 0. -/
theorem exec_sets_no_statusBit {i : Instr} {s t : State} (h : exec i s = .next t) {j : Nat} (hj : j ≠ 0)
    (hset : t.sr.getLsbD j = true) : s.sr.getLsbD j = true := by
  cases hagent : i.agent with
  | busMaster =>
    obtain ⟨-, -, -, -, -, -, -, -, -, -, hwrCr | hwrSr | ⟨-, hsr⟩⟩ := exec_bus_next hagent h
    · obtain ⟨v, -, -, hsr⟩ := hwrCr
      rwa [hsr, getLsbD_mergeReady, if_neg hj] at hset
    · obtain ⟨v, -, -, hsr⟩ := hwrSr
      rw [hsr, getLsbD_clearSticky, Bool.and_eq_true] at hset
      exact hset.1
    · rwa [hsr] at hset
  | gpioDriver =>
    obtain ⟨line, b, rfl⟩ := agent_gpioDriver hagent
    obtain ⟨-, rfl⟩ := withSplitters_next.mp h
    obtain ⟨-, -, hsr, -⟩ := s.setInput_frame line b
    rwa [hsr] at hset
  | host =>
    obtain rfl | rfl := agent_host hagent
    · obtain ⟨-, -, rfl⟩ := execCompose_next h
      obtain hsr | hsr := composeBoard_sr s
      · rwa [hsr] at hset
      · simp [hsr] at hset
    · obtain ⟨rfl, -⟩ | ⟨rfl, -⟩ := execReset_next h
      · exact hset
      · simp at hset

end Sys2Proof.Machine

namespace Sys2Proof.Safety

open Sys2Proof.Machine Sys2Proof.RegisterBank

/-- The mask of R26 says that every bit other than bit 0 is 0. -/
theorem and_statusMask_eq_zero_iff (w : Word) : w &&& 0xFFFFFFFE#32 = 0#32 ↔ ∀ j, j ≠ 0 → w.getLsbD j = false := by
  have hmask (j : Nat) (hj : j < 32) : (0xFFFFFFFE#32).getLsbD j = !decide (j = 0) := by
    interval_cases j <;> rfl
  constructor
  · intro hzero j hj
    by_cases hlt : j < 32
    · have hbit : (w &&& 0xFFFFFFFE#32).getLsbD j = false := by rw [hzero, BitVec.getLsbD_zero]
      simpa [hmask j hlt, hj] using hbit
    · exact w.getLsbD_of_ge j (Nat.not_lt.mp hlt)
  · intro hbits
    refine BitVec.eq_of_getLsbD_eq fun j hlt => ?_
    by_cases hj : j = 0
    · simp [hj]
    · simp [hbits j hj]

/-- Every kind keeps SR bits 31:1 at 0: composition sets SR to 0, and the others set none of them. -/
theorem OnlyReadyBit.exec {i : Instr} {s t : State} (hs : OnlyReadyBit s) (h : exec i s = .next t) : OnlyReadyBit t := by
  intro hrunning
  by_cases hcompose : i = .compose
  · subst hcompose
    obtain ⟨-, hsr⟩ := exec_compose_bank h hrunning
    rw [hsr]
    rfl
  · have hbits := (and_statusMask_eq_zero_iff s.sr).mp (hs (exec_keeps_phase h hcompose ▸ hrunning))
    refine (and_statusMask_eq_zero_iff t.sr).mpr fun j hj => ?_
    exact Bool.eq_false_iff.mpr fun hset => Bool.eq_false_iff.mp (hbits j hj) (exec_sets_no_statusBit h hj hset)

/-- `ReadyMirrorsEnable` reads the phase, CR and SR bit 0 only. -/
theorem ReadyMirrorsEnable.congr {s t : State} (hs : ReadyMirrorsEnable s) (hphase : t.phase = s.phase) (hcr : t.cr = s.cr)
    (hready : t.sr.getLsbD 0 = s.sr.getLsbD 0) : ReadyMirrorsEnable t := by
  intro hrunning
  have hmirror : s.sr.getLsbD 0 = enableBit s.cr := hs (hphase ▸ hrunning)
  rw [dataReady, hready, hmirror, hcr]

/-- A bank with both registers at 0 has SR bit 0 equal to CR bit 2 (R200). -/
theorem ReadyMirrorsEnable.of_clear {s : State} (hcr : s.cr = 0) (hsr : s.sr = 0) : ReadyMirrorsEnable s := by
  intro _
  rw [hcr, hsr]
  rfl

/-- Every kind keeps SR bit 0 equal to CR bit 2: a CR write moves both together, composition and a clearing reset set both registers
to 0, and no other kind touches either bit (R25, R113). -/
theorem ReadyMirrorsEnable.exec {i : Instr} {s t : State} (hs : ReadyMirrorsEnable s) (h : exec i s = .next t) :
    ReadyMirrorsEnable t := by
  cases i with
  | wrCr v =>
    obtain ⟨-, rfl⟩ := withBank_next.mp h
    exact fun _ => getLsbD_zero_mergeReady s.sr v
  | compose =>
    intro hrunning
    obtain ⟨hcr, hsr⟩ := exec_compose_bank h hrunning
    exact ReadyMirrorsEnable.of_clear hcr hsr hrunning
  | reset =>
    obtain ⟨rfl, -⟩ | ⟨rfl, -⟩ := execReset_next h
    · exact hs
    · exact .of_clear rfl rfl
  | _ =>
    obtain ⟨hcr, hready⟩ := exec_keeps_readyBit h nofun nofun
    exact hs.congr (exec_keeps_phase h nofun) hcr hready

/-- Settles O43: a step stays, or runs one kind, and taking a transaction off the sequence touches neither register. -/
theorem stepKeepsReadyMirrorsEnable : Obligations.StepKeepsReadyMirrorsEnable := by
  unfold Obligations.StepKeepsReadyMirrorsEnable
  intro s t hs hstep
  obtain ⟨-, ⟨-, rfl⟩ | ⟨_, rest, i, -, -, hexec⟩⟩ := step_next hstep
  · exact hs
  · have htaken : ReadyMirrorsEnable { s with pending := rest } := hs
    exact htaken.exec hexec

/-- Settles O44: a step stays, or runs one kind, and taking a transaction off the sequence leaves SR. -/
theorem stepKeepsOnlyReadyBit : Obligations.StepKeepsOnlyReadyBit := by
  unfold Obligations.StepKeepsOnlyReadyBit
  intro s t hs hstep
  obtain ⟨-, ⟨-, rfl⟩ | ⟨_, rest, i, -, -, hexec⟩⟩ := step_next hstep
  · exact hs
  · have htaken : OnlyReadyBit { s with pending := rest } := hs
    exact htaken.exec hexec

/-- Settles O48: a step stays, or runs one kind, which sets no such bit. -/
theorem noStepSetsAStatusBit : Obligations.NoStepSetsAStatusBit := by
  unfold Obligations.NoStepSetsAStatusBit
  intro s t j hstep hj hset
  obtain ⟨-, ⟨-, rfl⟩ | ⟨_, rest, i, -, -, hexec⟩⟩ := step_next hstep
  · exact hset
  · exact exec_sets_no_statusBit (s := { s with pending := rest }) hexec hj hset

end Sys2Proof.Safety
end

section
/-! The diagnostics log (R28, R188): it only grows, by at most one event a kind and so a step. -/

namespace Sys2Proof.Machine

/-- `t` has the log of `s` with at most one event more (R28). -/
def LogsAtMostOne (s t : State) : Prop := ∃ events, t.diags = s.diags ++ events ∧ events.length ≤ 1

/-- An unchanged log has grown by no event. -/
theorem LogsAtMostOne.of_none {s t : State} (h : t.diags = s.diags) : LogsAtMostOne s t :=
  ⟨[], by rw [h, List.append_nil], Nat.zero_le _⟩

/-- A log with one event appended has grown by one. -/
theorem LogsAtMostOne.of_one {s t : State} {event : Diag} (h : t.diags = s.diags ++ [event]) : LogsAtMostOne s t :=
  ⟨[event], h, le_rfl⟩

/-- Every kind logs at most one event (R188): none where a register is serviced without complaint, and none for GPIO and the host;
one for every other bus kind. -/
theorem exec_logsAtMostOne {i : Instr} {s t : State} (h : exec i s = .next t) : LogsAtMostOne s t := by
  cases i with
  | gpioSet line b =>
    obtain ⟨-, rfl⟩ := withSplitters_next.mp h
    obtain ⟨-, -, -, hdiags, -⟩ := s.setInput_frame line b
    exact .of_none hdiags
  | compose =>
    obtain ⟨-, -, rfl⟩ := execCompose_next h
    obtain ⟨-, -, -, hdiags, -⟩ := composeBoard_frame s
    exact .of_none hdiags
  | reset => obtain ⟨rfl, -⟩ | ⟨rfl, -⟩ := execReset_next h <;> exact .of_none rfl
  | rdCr =>
    obtain ⟨-, rfl⟩ := withBank_next.mp h
    exact .of_none rfl
  | rdSr =>
    obtain ⟨-, rfl⟩ := withBank_next.mp h
    exact .of_none rfl
  | wrCr v =>
    obtain ⟨-, rfl⟩ := withBank_next.mp h
    exact .of_none rfl
  | rdDr =>
    obtain ⟨-, rfl⟩ := withBank_next.mp h
    split
    · exact .of_none rfl
    · exact .of_one rfl
  | wrSr v =>
    obtain ⟨-, rfl⟩ := withBank_next.mp h
    split
    · exact .of_one rfl
    · exact .of_none rfl
  | _ =>
    obtain ⟨-, rfl⟩ := withBank_next.mp h
    exact .of_one rfl

end Sys2Proof.Machine

namespace Sys2Proof.Safety

open Sys2Proof.Machine

/-- Settles O49: a step stays, or runs one kind, and taking a transaction off the sequence leaves the log. -/
theorem stepLogsAtMostOneDiagnostic : Obligations.StepLogsAtMostOneDiagnostic := by
  unfold Obligations.StepLogsAtMostOneDiagnostic
  intro s t hstep
  obtain ⟨-, ⟨-, rfl⟩ | ⟨_, rest, i, -, -, hexec⟩⟩ := step_next hstep
  · exact LogsAtMostOne.of_none rfl
  · exact exec_logsAtMostOne (s := { s with pending := rest }) hexec

end Sys2Proof.Safety
end

section
/-! The start of a run, the steps that run no kind, and the refusals and resets by phase (R100, R201, R203). -/

namespace Sys2Proof.Machine

/-- R203: no consumer has seen a level at the start of a run. -/
@[simp] theorem State.seen_reset (c : Consumer) : State.reset.seen c = none := by
  cases c with
  | socIn pin =>
    simp only [State.seen]
    cases State.reset.params.lineOf pin with
    | none => rfl
    | some i => exact Vector.getElem_replicate _
  | periphIn i => exact Vector.getElem_replicate _

/-- R212: with nothing pending a step leaves a board that is not aborted (log 4). -/
theorem step_idle {s : State} (h : s.phase ≠ .aborted) (hpending : s.pending = []) : step s = .next s := by
  simp [step, State.upcoming, h, hpending]

/-- R78: outside `Aborted` a step refuses a transaction that decodes to no kind. -/
theorem step_reject {s : State} {tr : Transaction} {rest : List Transaction} {e : DecodeError} (h : s.phase ≠ .aborted)
    (hpending : s.pending = tr :: rest) (hdecode : decode s.params.regionSize tr = .refused e) :
    step s = refuseDecode e { s with pending := rest } := by
  simp [step, State.upcoming, h, hpending, hdecode]

/-- R201: RESET on a board with a bank. -/
theorem exec_reset_running {s : State} (h : s.phase = .running true) :
    exec .reset s = .next (if s.params.systemResetClearsBank = true then s.clearBank else s) := by
  simp only [exec, execReset, h]

/-- R167, R201: RESET on a board without a bank. -/
theorem exec_reset_noBank {s : State} (h : s.phase = .running false) : exec .reset s = .next s := by
  simp only [exec, execReset, h]

/-- R201: RESET before composition. -/
theorem exec_reset_uncomposed {s : State} (h : s.phase = .uncomposed) :
    exec .reset s = .refused (.noBoard s.markRefused) := by
  simp only [exec, execReset, h, refuse]

/-- R52: the four lanes of a word, put together again, are the word. -/
theorem ofByteLanes_byteLane (v : Word) :
    ofByteLanes (byteLane v 0) (byteLane v 1) (byteLane v 2) (byteLane v 3) = v := by
  refine BitVec.eq_of_getLsbD_eq fun j hj => ?_
  simp only [ofByteLanes, byteLane, BitVec.getLsbD_append, BitVec.getLsbD_extractLsb']
  interval_cases j <;> rfl

end Sys2Proof.Machine

namespace Sys2Proof.Safety

open Sys2Proof.Machine

/-- Settles O1: at the start there is no bank, so every bus kind is refused. -/
theorem initialStateOfARun : Obligations.InitialStateOfARun := by
  unfold Obligations.InitialStateOfARun
  have hrefused {i : Instr} (hagent : i.agent = .busMaster) :
      exec i State.reset = .refused (.noRegisterBank State.reset.markRefused) := exec_bus_refused (.inl rfl) hagent
  exact ⟨rfl, rfl, rfl, rfl, State.seen_reset, hrefused rfl, hrefused rfl, hrefused rfl⟩

/-- Settles O47: the start is before composition, so only the invariants on the consumers say anything there, and nothing has been
delivered. -/
theorem initialStateMeetsInvariants : Obligations.InitialStateMeetsInvariants := by
  unfold Obligations.InitialStateMeetsInvariants
  have hseen : SeenIsLastNote State.reset := State.seen_reset
  exact ⟨nofun, nofun, nofun, fun _ => ⟨rfl, State.seen_reset⟩, nofun, hseen, rfl⟩

/-- Settles O3: `upcoming` is the idle step. -/
theorem stepIdlesWithNothingPending : Obligations.StepIdlesWithNothingPending := by
  unfold Obligations.StepIdlesWithNothingPending
  exact fun s hpending hphase => step_idle hphase hpending

/-- Settles O40: one equation per phase. -/
theorem systemResetByPhase : Obligations.SystemResetByPhase := by
  unfold Obligations.SystemResetByPhase
  exact fun s => ⟨exec_reset_running, exec_reset_noBank, exec_reset_uncomposed, fun haborted => exec_aborted haborted _⟩

/-- Settles O41: every bus kind is a rule of the register bank. -/
theorem busRefusedWithoutBank : Obligations.BusRefusedWithoutBank := by
  unfold Obligations.BusRefusedWithoutBank
  exact fun s i hphase hagent => exec_bus_refused hphase hagent

/-- Settles O42: neither transaction decodes to a kind. -/
theorem undecodableTransactionsAreRefused : Obligations.UndecodableTransactionsAreRefused := by
  unfold Obligations.UndecodableTransactionsAreRefused
  refine fun s rest hphase => ⟨fun line b hpending hline => ?_, fun off hpending => ?_⟩
  · exact step_reject hphase hpending (Encoding.decode_gpio_badLine _ b hline)
  · exact step_reject hphase hpending rfl

/-- Settles O51: the lanes at the two ends are their bits by definition, and the four give the word back. -/
theorem byteLanesAreLittleEndian : Obligations.ByteLanesAreLittleEndian := by
  unfold Obligations.ByteLanesAreLittleEndian
  exact fun v => ⟨rfl, rfl, ofByteLanes_byteLane v⟩

end Sys2Proof.Safety
end
